-- ==== Sys2Proof/Word.lean ====
section
/-! DEFINITION. The word types of the block: the data byte and the callback address (R7, R9, R61). -/

namespace Sys2Proof

/-- A data byte, `u8` (R7: `DATA_BITS` = 8). -/
abbrev Byte := BitVec 8

/-- The address of the callback contract, `u16` (R61; R7: `CPU_ADDR_BITS` = 16). -/
abbrev Addr := BitVec 16

end Sys2Proof
end

