-- ==== Sys2Proof/Machine/Parts.lean ====
section
/-! DEFINITION. The records the block's state is made of, component by component, as `10_state.md` and
`45_timer_io.md` (the input record) declare them, and the snapshot record of `47_scheduler_host.md`.
Plain data only. -/

namespace Sys2Proof.Machine

/-- A byte array, sparse: (index, byte) pairs, indexes strictly rising, no byte 0. An unlisted byte reads 0, the reset
value of every byte array of the block (R21, R22, R24; D6). -/
abbrev Mem := List Host.Cell

/-- The cartridge image: `len(image)` bytes, read only (R60). -/
structure Image where
  size  : Nat
  bytes : Mem
  deriving DecidableEq, Repr

/-- No cartridge: the image of length 0. -/
def Image.empty : Image := ⟨0, []⟩

/-- The configuration input `tvFormat` (R7). -/
inductive TvFormat where
  | ntsc | pal
  deriving DecidableEq, Repr

/-- The configuration input `controllerMode[port]` (R7). -/
inductive ControllerMode where
  | joystick | paddle | keypad
  deriving DecidableEq, Repr

/-! ## Errors (R480) -/

/-- The fatal error of a live instance (R480, R481). -/
inductive FatalKind where
  | unrecognizedCartSize
  deriving DecidableEq, Repr

/-- The soft anomalies (R480, class b). -/
inductive AnomalyKind where
  | unimplementedRegister | heuristicAmbiguity
  deriving DecidableEq, Repr

/-- The failure values of `SNAPSHOT.LOAD` (R480, R483). -/
inductive LoadFailure where
  | unknownMapperTag | unknownVersion | futureVersion
  deriving DecidableEq, Repr

/-- The code of R480's table. -/
def FatalKind.code : FatalKind → Nat
  | .unrecognizedCartSize => 1

/-- The code of R480's table. -/
def LoadFailure.code : LoadFailure → Nat
  | .unknownMapperTag => 2
  | .unknownVersion => 3
  | .futureVersion => 4

/-- The code of R480's table. -/
def AnomalyKind.code : AnomalyKind → Nat
  | .unimplementedRegister => 16
  | .heuristicAmbiguity => 17

/-- The `info` of an anomaly, "the address or select" (R480): `value` is what the register's own rule logs, `addr` the
address `a` = addr[12:0] of the access, which R99 logs. They differ at the video chip's registers only (log entry 27). -/
structure AnomalyInfo where
  value : Nat
  addr  : Nat
  deriving DecidableEq, Repr

/-- One entry `(kind, info)` of `anomalies` (R484). -/
structure Anomaly where
  kind : AnomalyKind
  info : AnomalyInfo
  deriving DecidableEq, Repr

/-- The recorded fatal error (R481). -/
structure FatalError where
  kind : FatalKind
  info : Nat
  deriving DecidableEq, Repr

/-! ## Mapper (R22, R141) -/

/-- The thirteen variant tags (R141). -/
inductive Tag where
  | unknown | f8 | f6 | f4 | fa | f0 | e0 | m3f | fe | e7 | dpc | ar66 | c0
  deriving DecidableEq, Repr

/-- `identify()`: the numeric tag of a variant (R141). -/
def Tag.number : Tag → Byte
  | .unknown => 0x00
  | .f8 => 0xF8
  | .f6 => 0xF6
  | .f4 => 0xF4
  | .fa => 0xFA
  | .f0 => 0xF0
  | .e0 => 0xE0
  | .m3f => 0x3F
  | .fe => 0xFE
  | .e7 => 0xE7
  | .dpc => 0xDC
  | .ar66 => 0x66
  | .c0 => 0xC0

/-- The thirteen tags (R141, R483). -/
def allTags : List Tag :=
  [.unknown, .f8, .f6, .f4, .fa, .f0, .e0, .m3f, .fe, .e7, .dpc, .ar66, .c0]

/-- Is a number in the tag table (R467)? -/
def tagTableHas (t : Byte) : Bool := allTags.any (fun v => v.number == t)

/-- A number that is the tag of no variant (R467, R483). -/
abbrev ForeignTag := { t : Byte // tagTableHas t = false }

/-- The three kinds of the standard family (R151). -/
inductive StdKind where
  | f8 | f6 | f4
  deriving DecidableEq, Repr

/-- `Std(kind)` (R22). -/
structure Std where
  kind      : StdKind
  bank      : Nat
  superchip : Bool
  scRam     : Mem
  deriving DecidableEq, Repr

/-- `FA` (R22). -/
structure Fa where
  bank : Nat
  ram  : Mem
  deriving DecidableEq, Repr

/-- `E0` (R22): `slice[3]`. -/
structure E0 where
  slice0 : Nat
  slice1 : Nat
  slice2 : Nat
  deriving DecidableEq, Repr

/-- `E7` (R22). `ram256[b][k]` is byte `256 * b + k` of `ram256`. -/
structure E7 where
  bank    : Nat
  ramBank : Nat
  ram1k   : Mem
  ram256  : Mem
  deriving DecidableEq, Repr

/-- One of DPC's eight data pointers: `top[i]`, `bottom[i]`, `counter[i]`, `flag[i]`, `musicMode[i]` (R22). -/
structure Pointer where
  top       : Byte
  bottom    : Byte
  counter   : BitVec 16
  flag      : Byte
  musicMode : Bool
  deriving DecidableEq, Repr

/-- The eight data pointers of DPC. -/
structure Pointers where
  q0 : Pointer
  q1 : Pointer
  q2 : Pointer
  q3 : Pointer
  q4 : Pointer
  q5 : Pointer
  q6 : Pointer
  q7 : Pointer
  deriving DecidableEq, Repr

/-- `DPC` (R22). -/
structure Dpc where
  bank     : Nat
  ptr      : Pointers
  rng      : Byte
  oscTicks : Nat
  deriving DecidableEq, Repr

/-- `AR66`, the source's "66" (R22). -/
structure Ar where
  ram       : Mem
  ctrl      : Byte
  latched   : Byte
  pending   : Bool
  heldAddr  : Addr
  heldCount : Nat
  entry     : BitVec 16
  deriving DecidableEq, Repr

/-- The active mapper: "a closed, tagged set of variants", each with its private state (R22). -/
inductive Mapper where
  | unknown
  | std (m : Std)
  | fa (m : Fa)
  | f0 (bank : Nat)
  | e0 (m : E0)
  | m3f (bank : Nat)
  | fe (bank : Nat)
  | e7 (m : E7)
  | dpc (m : Dpc)
  | ar66 (m : Ar)
  | c0 (ram : Mem)
  deriving DecidableEq, Repr

/-- The system bus (R21). -/
structure Bus where
  ram            : Mem
  mapper         : Mapper
  lastReadAddr   : Addr
  lastWriteAddr  : Addr
  lastAccessAddr : Addr
  deriving DecidableEq, Repr

/-! ## Video chip (R23 to R30) -/

/-- A player (R25). -/
structure Player where
  pos    : Nat
  hm     : BitVec 4
  grpNew : Byte
  grpOld : Byte
  nusiz  : BitVec 3
  refl   : Bool
  vdel   : Bool
  colu   : Byte
  deriving DecidableEq, Repr

/-- A missile (R26). -/
structure Missile where
  pos     : Nat
  hm      : BitVec 4
  enabled : Bool
  size    : BitVec 2
  resmp   : Bool
  deriving DecidableEq, Repr

/-- The ball (R27). -/
structure Ball where
  pos   : Nat
  hm    : BitVec 4
  enNew : Bool
  enOld : Bool
  vdel  : Bool
  size  : BitVec 2
  deriving DecidableEq, Repr

/-- The fifteen collision latches `cx[0..14]`, named by their pair and in the index order of R29. -/
structure Collisions where
  m0p1 : Bool
  m0p0 : Bool
  m1p0 : Bool
  m1p1 : Bool
  p0pf : Bool
  p0bl : Bool
  p1pf : Bool
  p1bl : Bool
  m0pf : Bool
  m0bl : Bool
  m1pf : Bool
  m1bl : Bool
  blpf : Bool
  p0p1 : Bool
  m0m1 : Bool
  deriving DecidableEq, Repr

/-- The video chip (R23 to R30; R31: it holds no other state). -/
structure Tia where
  x              : Int
  y              : Int
  frameReady     : Bool
  waitHBlank     : Bool
  vsync          : Bool
  lastFrameLines : Int
  vblankBlank    : Bool
  vblankLatch    : Bool
  vblankDump     : Bool
  fb             : Mem
  p0             : Player
  p1             : Player
  m0             : Missile
  m1             : Missile
  bl             : Ball
  pfToLoad       : BitVec 20
  pfActive       : BitVec 20
  pfReflect      : Bool
  pfScore        : Bool
  pfPriority     : Bool
  colupf         : Byte
  colubk         : Byte
  cx             : Collisions
  hmovePending   : Bool
  hmoveLate      : Bool
  comb           : Bool
  deriving DecidableEq, Repr

/-! ## Timer, ports (R40, R41) -/

/-- The four dividers of the interval timer (R7: `TIMER_DIVIDERS`). -/
inductive Divider where
  | d1 | d8 | d64 | d1024
  deriving DecidableEq, Repr

/-- The interval timer (R40). -/
structure Timer where
  intim    : Byte
  interval : Divider
  sub      : Nat
  ufIntim  : Bool
  ufStatus : Bool
  deriving DecidableEq, Repr

/-- Ports and input sampling (R41). -/
structure Io where
  swchaOut       : Byte
  swacnt         : Byte
  swchbOut       : Byte
  swbcnt         : Byte
  inptLatch0     : Bool
  inptLatch1     : Bool
  paddleStart    : Nat
  paddleCharged0 : Bool
  paddleCharged1 : Bool
  paddleCharged2 : Bool
  paddleCharged3 : Bool
  deriving DecidableEq, Repr

/-! ## Input record (R380) -/

/-- A five-way joystick (R380), true = pressed. -/
structure Joystick where
  up     : Bool
  down   : Bool
  left   : Bool
  right  : Bool
  button : Bool
  deriving DecidableEq, Repr

/-- A paddle (R380): its button and its position in degrees, -135..135. -/
structure Paddle where
  button : Bool
  pos    : Int
  deriving DecidableEq, Repr

/-- One row of a keypad: the keys of columns 0, 1, 2. -/
structure KeyRow where
  c0 : Bool
  c1 : Bool
  c2 : Bool
  deriving DecidableEq, Repr

/-- A twelve-key keypad: key `n` is in row `n / 3`, column `n mod 3` (R380). -/
structure Keypad where
  r0 : KeyRow
  r1 : KeyRow
  r2 : KeyRow
  r3 : KeyRow
  deriving DecidableEq, Repr

/-- The input record (R380). -/
structure Input where
  joy0    : Joystick
  joy1    : Joystick
  paddle0 : Paddle
  paddle1 : Paddle
  paddle2 : Paddle
  paddle3 : Paddle
  reset   : Bool
  select  : Bool
  diff0   : Bool
  diff1   : Bool
  keypad0 : Keypad
  keypad1 : Keypad
  deriving DecidableEq, Repr

/-! ## Sound (R42, R43) -/

/-- A sound channel (R42). -/
structure Channel where
  audc     : BitVec 4
  audf     : BitVec 5
  audv     : BitVec 4
  divCount : BitVec 5
  sub      : Nat
  poly4    : BitVec 4
  poly5    : BitVec 5
  poly9    : BitVec 9
  div31    : Nat
  out      : Bool
  deriving DecidableEq, Repr

/-- The two sound channels and the mixer (R42, R43). -/
structure Apu where
  ch0 : Channel
  ch1 : Channel
  clk : Nat
  acc : Nat
  n   : Nat
  buf : List Byte
  deriving DecidableEq, Repr

/-! ## Snapshot (R466) -/

/-- "a separately tagged encoding of the active Mapper's numeric identity plus its private state" (R466): a variant of
the tag table with its fields, or a tag that is not in the table, which `SNAPSHOT.LOAD` must report (R467). -/
inductive SavedMapper where
  | variant (m : Mapper)
  | unknownTag (tag : ForeignTag)
  deriving DecidableEq, Repr

/-- The logical content of a saved state (R466): the version, the identifying string, every path of `10_state.md` but
`bus.mapper`, the configuration `tvFormat` and `controllerMode`, and the mapper. The image is not in it. -/
structure Snapshot where
  version        : Int
  ident          : List Byte
  cycles         : Nat
  ram            : Mem
  lastReadAddr   : Addr
  lastWriteAddr  : Addr
  lastAccessAddr : Addr
  timer          : Timer
  tia            : Tia
  apu            : Apu
  io             : Io
  input          : Input
  fatal          : Option FatalError
  anomalies      : List Anomaly
  tvFormat       : TvFormat
  mode0          : ControllerMode
  mode1          : ControllerMode
  mapper         : SavedMapper
  deriving DecidableEq, Repr

end Sys2Proof.Machine
end

