-- ==== Sys2Proof/Config.lean ====
section
/-! DEFINITION. The parameters of R7: what the spec fixes or gives as a default, each under its own name, and the OPEN
parameters and draws, which have no body, so that no proof can see a value of them.

Five parameters of R7 are types, not numbers: `DATA_BITS` is the width of `Byte`, `CPU_ADDR_BITS` that of `Addr`,
`PF_BITS` that of the two playfield registers, `N_COLLISIONS` the number of fields of `Collisions`, and `TIMER_DIVIDERS`
the type `Divider` with `Divider.cycles`. `ADDR_BITS` is the number of address bits `a13` keeps. `tvFormat` and
`controllerMode` are fields of State, the arguments of `POWERON`. -/

namespace Sys2Proof.Config

open Sys2Proof.Machine

/-! ## Fixed by source (R7) -/

/-- `RAM_SIZE`. -/
def ramSize : Nat := 128

/-- `HBLANK_CLOCKS`. -/
def hblankClocks : Nat := 68

/-- `VISIBLE_CLOCKS`. -/
def visibleClocks : Nat := 160

/-- `LINE_CLOCKS` = `HBLANK_CLOCKS` + `VISIBLE_CLOCKS` = 228. -/
def lineClocks : Nat := hblankClocks + visibleClocks

/-- `CLOCKS_PER_CYCLE`, colour clocks per processor cycle. -/
def clocksPerCycle : Nat := 3

/-- `CYCLES_PER_LINE` = `LINE_CLOCKS` / `CLOCKS_PER_CYCLE` = 76. -/
def cyclesPerLine : Nat := lineClocks / clocksPerCycle

/-- `PF_LATCH_PHASE`: the playfield is latched where `emod(x, 4)` is this. -/
def pfLatchPhase : Nat := 3

/-- `SAMPLE_RATE`, frames per second. -/
def sampleRate : Nat := 44100

/-- `FORMAT_THRESHOLD`, lines. -/
def formatThreshold : Int := 263

/-- `FORMAT_RUN`, consecutive frames (D41). -/
def formatRun : Nat := 20

/-- `DPC_OSC_TICKS`. -/
def dpcOscTicks : Nat := 60

/-- `AR_PULSE_CYCLES`. -/
def arPulseCycles : Nat := 5

/-- `AR_RAM_SIZE`. -/
def arRamSize : Nat := 6144

/-! ## Defaults of the spec (R7) -/

/-- `FB_W` (D8). -/
def fbW : Nat := 160

/-- `FB_H` (D8). -/
def fbH : Nat := 264

/-- An RGB triple (R7, `PALETTE`). -/
structure Rgb where
  r : Byte
  g : Byte
  b : Byte
  deriving DecidableEq, Repr, Inhabited

/-- The four bytes of a stored pixel, in the order R, G, B, A (R24). -/
structure Rgba where
  r : Byte
  g : Byte
  b : Byte
  a : Byte
  deriving DecidableEq, Repr

/-- `BLANK_RGBA` (D8). -/
def blankRgba : Rgba := ⟨0x00, 0x00, 0x00, 0xFF⟩

/-- `controllerMode[port]` where no input is given (D40). -/
def defaultMode : ControllerMode := .joystick

/-- `Y_TOP[format]` (D9). -/
def yTop : TvFormat → Int
  | .ntsc => -37
  | .pal => -45

/-- `LINES[format]`, the lines of a whole frame (§8 scenario C). No rule reads it; `Y_MAX` leaves room for it (D9). -/
def lines : TvFormat → Nat
  | .ntsc => 262
  | .pal => 312

/-- `Y_MAX` (D9). -/
def yMax : Int := 320

/-- `RES_DELAY_P` (D11). -/
def resDelayP : Nat := 5

/-- `RES_DELAY_MB` (D11). -/
def resDelayMB : Nat := 4

/-- `RES_HBLANK_P` (D11). -/
def resHblankP : Nat := 3

/-- `RES_HBLANK_MB` (D11). -/
def resHblankMB : Nat := 2

/-- `HMOVE_LATE_OFFSET` (D15). -/
def hmoveLateOffset : Nat := 8

/-- `COMB_WIDTH`, visible clocks (D15). -/
def combWidth : Nat := 8

/-- `AUDIO_CLOCK_DIV`, processor cycles per generator clock (D24). -/
def audioClockDiv : Nat := 38

/-- `CPU_HZ[format]` (D27). -/
def cpuHz : TvFormat → Nat
  | .ntsc => 1193182
  | .pal => 1182298

/-- `SAMPLE_DIV[format]` = `CPU_HZ[format] / 44100` rounded down: 27 and 26 (R7). -/
def sampleDiv (f : TvFormat) : Nat := cpuHz f / sampleRate

/-- `AUDIO_BUF_CAP`, bytes (D27). -/
def audioBufCap : Nat := 16384

/-- `PADDLE_LINES_MAX` (D23). -/
def paddleLinesMax : Nat := 380

/-- `AR_ENTRY_OFFSET` (D37). -/
def arEntryOffset : Nat := 0x2000

/-! ## OPEN parameters (R7): uninterpreted constants -/

/-- `PALETTE(format, c)`, from a 7-bit colour-luma code (R7, D8, U10). -/
opaque palette : TvFormat → BitVec 7 → Rgb

/-- `hashFn`, from an image to a hash value (R7, D29, U11). -/
opaque hashFn : Image → Nat

/-- `KNOWN_HASHES`, a finite map from hash to tag (R7, D29, U11); the first entry of a hash counts. -/
opaque knownHashes : List (Nat × Tag)

/-- `SNAP_VERSION`, an integer of either sign, "the current snapshot version integer" (R7, D43, U13). -/
opaque snapVersion : Int

/-- The snapshot's identifying string (R466, N27, U13). -/
opaque snapIdent : List Byte

/-- `migrate` (R467): surrounding software (R6); `none` is its "unknown version" failure. -/
opaque migrate : Snapshot → Option Snapshot

/-! ## A value no rule states -/

/-- `emod(d, 0)`: the bank a `3F` image of no banks would take from a data byte. R9 defines `emod` for `n > 0` only (log
entry 17). -/
opaque emodZero : Nat → Nat

/-! ## Draws (R11): free values, one per evaluation; the argument is the running count of draws in State -/

/-- `draw_8()` number `n`. -/
opaque draw8 : Nat → BitVec 8

/-- `draw_6()` number `n`. -/
opaque draw6 : Nat → BitVec 6

/-- `draw_1()` number `n`. -/
opaque draw1 : Nat → Bool

end Sys2Proof.Config
end

