-- ==== Sys2Proof/Machine/Memory.lean ====
section
/-! DEFINITION. Byte arrays: reading, writing, the canonical form (R60, R69). -/

namespace Sys2Proof.Machine

/-- Byte `i` of a byte array; an unlisted byte reads 0 (D6). -/
def Mem.read : Mem → Nat → Byte
  | [], _ => 0
  | (k, b) :: rest, i => if k = i then b else Mem.read rest i

/-- The array without an entry at `i`. -/
def Mem.erase : Mem → Nat → Mem
  | [], _ => []
  | (k, b) :: rest, i => if k = i then Mem.erase rest i else (k, b) :: Mem.erase rest i

/-- The array with an entry `(i, v)` put before the first larger index. -/
def Mem.insert : Mem → Nat → Byte → Mem
  | [], i, v => [(i, v)]
  | (k, b) :: rest, i, v => if i < k then (i, v) :: (k, b) :: rest else (k, b) :: Mem.insert rest i v

/-- `mem[i] <- v`. Writing 0, what an unlisted byte reads as, removes the entry. -/
def Mem.write (m : Mem) (i : Nat) (v : Byte) : Mem :=
  if v = 0 then Mem.erase m i else Mem.insert (Mem.erase m i) i v

/-- The first `n` bytes of an array (R236: "copies the first 6 KB"). -/
def Mem.take : Mem → Nat → Mem
  | [], _ => []
  | (k, b) :: rest, n => if k < n then (k, b) :: Mem.take rest n else Mem.take rest n

/-- Indexes strictly rising from `lo` on, no byte 0. -/
def Mem.wfFrom : Nat → Mem → Bool
  | _, [] => true
  | lo, (k, b) :: rest => decide (lo ≤ k) && decide (b ≠ 0) && Mem.wfFrom (k + 1) rest

/-- The canonical form: indexes strictly rising, no entry equal to what an unlisted byte reads as. -/
def Mem.wf (m : Mem) : Bool := Mem.wfFrom 0 m

/-- Every listed index is below `size`. -/
def Mem.below (size : Nat) : Mem → Bool
  | [] => true
  | (k, _) :: rest => decide (k < size) && Mem.below size rest

/-- A canonical array of `size` bytes. -/
def Mem.ok (size : Nat) (m : Mem) : Bool := Mem.wf m && Mem.below size m

/-- A canonical image. -/
def Image.ok (img : Image) : Bool := Mem.ok img.size img.bytes

end Sys2Proof.Machine
end

