-- ==== Sys2Proof/Machine/Requests.lean ====
section
/-! DEFINITION. What the agents hand the block, before decoding: the bus transactions of the callback contract and the
events of R98 with their operands (R3, R4, R90, R98). -/

namespace Sys2Proof.Machine

/-- The direction of a bus access, with the data byte of a write (R90: `rw`, `d`). A read has no data byte: the field
`d` of its bus word is "ignored (any value)". -/
inductive Access where
  | rd
  | wr (d : Byte)
  deriving DecidableEq, Repr

/-- Is it a write (R146: `isWrite`)? -/
def Access.isWrite : Access → Bool
  | .rd => false
  | .wr _ => true

/-- One event of the processor core during an instruction (R4). -/
inductive CoreEvent where
  | rd (addr : Addr)
  | wr (addr : Addr) (d : Byte)
  | run (n : Nat)
  deriving DecidableEq, Repr

/-- The operand of an event (R98, R101; `source_fields` of the table's `EVT` rows). -/
inductive Operand where
  | none
  | count (n : Nat)
  | input (i : Input)
  | snapshot (snap : Snapshot) (image : Image)
  | power (image : Image) (format : TvFormat) (mode0 mode1 : ControllerMode)
  | access (addr : Addr) (isWrite : Bool)
  | counts (lines : List Int)
  | core (events : List CoreEvent)
  deriving DecidableEq, Repr

/-- One operation an agent asks for: a bus read, a bus write, or an event code with its operand. -/
inductive Request where
  | read (addr : Addr)
  | write (addr : Addr) (d : Byte)
  | event (code : BitVec 8) (op : Operand)
  deriving DecidableEq, Repr

end Sys2Proof.Machine
end

