-- ==== Sys2Proof/Machine/Operands.lean ====
section
/-! DEFINITION. The operand forms: the fields of an address (R61, R62, R91), the sub-fields of a data byte (R93), and
the arithmetic primitives of R9, and what each row of the opcode table asks of an address. -/

namespace Sys2Proof.Machine

/-! ## The address (R61, R91) -/

/-- The decoded 13-bit address `a = addr[12:0]`, as a number (R61). -/
def a13 (addr : Addr) : Nat := addr.toNat % 0x2000

/-- `a[11:0]`. -/
def a12 (addr : Addr) : Nat := addr.toNat % 0x1000

/-- `a[10:0]`. -/
def a11 (addr : Addr) : Nat := addr.toNat % 0x800

/-- `a[9:0]`. -/
def a10 (addr : Addr) : Nat := addr.toNat % 0x400

/-- `a[7:0]`. -/
def a8 (addr : Addr) : Nat := addr.toNat % 0x100

/-- `a[6:0]`, the RAM index and the superchip index. -/
def a7 (addr : Addr) : Nat := addr.toNat % 0x80

/-- `a[5:0]`, the TIA write select. -/
def a6 (addr : Addr) : Nat := addr.toNat % 0x40

/-- `a[3:0]`, the TIA read select. -/
def a4 (addr : Addr) : Nat := addr.toNat % 0x10

/-- `a[2:0]`, the DPC pointer index and the E0 bank. -/
def a3 (addr : Addr) : Nat := addr.toNat % 8

/-- `a[1:0]`, the port select and the divider select. -/
def a2 (addr : Addr) : Nat := addr.toNat % 4

/-- The four regions of the bus (R62, R124). -/
inductive Region where
  | cart | tia | ram | io
  deriving DecidableEq, Repr

/-- `region(a)` (R124). -/
def region (addr : Addr) : Region :=
  if addr.getLsbD 12 then .cart
  else if !addr.getLsbD 7 then .tia
  else if !addr.getLsbD 9 then .ram
  else .io

/-- `a[2]`: an access of the I/O region reaches the timer, not a port (R360). -/
def timerSelect (addr : Addr) : Bool := addr.getLsbD 2

/-- The range watched by the `3F` variant, `a <= 0x003F` (R177). -/
def lowTia (addr : Addr) : Bool := decide (a13 addr ≤ 0x3F)

/-! ## The windows of the cartridge formats (R97) -/

/-- `NBANKS` (R151). -/
def StdKind.nbanks : StdKind → Nat
  | .f8 => 2
  | .f6 => 4
  | .f4 => 8

/-- `HOT`, the base of the bank-select window (R151). -/
def StdKind.hot : StdKind → Nat
  | .f8 => 0x1FF8
  | .f6 => 0x1FF6
  | .f4 => 0x1FF4

/-- `lo <= a <= hi`. -/
def within (lo hi a : Nat) : Bool := decide (lo ≤ a) && decide (a ≤ hi)

/-- The bank-select window of a kind: `HOT <= a < HOT + NBANKS` (R152). -/
def StdKind.hotspot (k : StdKind) (a : Nat) : Bool := decide (k.hot ≤ a) && decide (a < k.hot + k.nbanks)

/-! ## The rows' conditions on an address (R91, R94 to R97) -/

/-- A write the `3F` variant snoops: row `3F.BANK` comes first (R92, R177). -/
def snooped (tag : Tag) (addr : Addr) : Bool := tag == .m3f && lowTia addr

/-- Format `TIAW` with select `k` (R91, R94). -/
def tiaWriteAt (tag : Tag) (addr : Addr) (k : Nat) : Bool :=
  region addr == .tia && a6 addr == k && !snooped tag addr

/-- Format `TIAR` with select `k` (R91, R95). -/
def tiaReadAt (addr : Addr) (k : Nat) : Bool := region addr == .tia && a4 addr == k

/-- Format `IOP` with select `k` (R91, R96). -/
def portAt (addr : Addr) (k : Nat) : Bool := region addr == .io && !timerSelect addr && a2 addr == k

/-- Format `TMRR` with `a[0] = b` (R91, R96). -/
def timerReadAt (addr : Addr) (b : Bool) : Bool := region addr == .io && timerSelect addr && addr.getLsbD 0 == b

/-- Format `TMRW` with `a[4] = 1` and divider select `k` (R91, R96). -/
def timerWriteAt (addr : Addr) (k : Nat) : Bool :=
  region addr == .io && timerSelect addr && addr.getLsbD 4 && a2 addr == k

/-- Format `TMRW` with `a[4] = 0` (R96). -/
def edgeAt (addr : Addr) : Bool := region addr == .io && timerSelect addr && !addr.getLsbD 4

/-- Format `CART.<t>` (R91). -/
def cartAt (tag t : Tag) (addr : Addr) : Bool := tag == t && region addr == .cart

/-- DPC function field `f = a[5:3]` (R200). -/
def dpcFunction (addr : Addr) : Nat := addr.toNat / 8 % 8

/-- A DPC read register with function `f`, 0x1000..0x103F (R200, R210). -/
def dpcReadAt (addr : Addr) (f : Nat) : Bool := decide (a13 addr ≤ 0x103F) && dpcFunction addr == f

/-- A DPC write register with function `f`, 0x1040..0x107F (R200). -/
def dpcWriteAt (addr : Addr) (f : Nat) : Bool := within 0x1040 0x107F (a13 addr) && dpcFunction addr == f

/-- What is left to the row `DPC.ROM`: program ROM outside the hotspots, a read of the write registers, a write to the
read registers (R206). -/
def dpcRomAt (addr : Addr) : Access → Bool
  | .rd => decide (0x1040 ≤ a13 addr) && !within 0x1FF8 0x1FF9 (a13 addr)
  | .wr _ => (decide (a13 addr ≤ 0x103F) || decide (0x1080 ≤ a13 addr)) && !within 0x1FF8 0x1FF9 (a13 addr)

/-! ## The data byte (R93) -/

/-- `d[k]`. -/
def bit (d : Byte) (k : Nat) : Bool := d.getLsbD k

/-- `d[7:4]`. -/
def hi4 (d : Byte) : BitVec 4 := d.extractLsb' 4 4

/-- `d[3:0]`. -/
def lo4 (d : Byte) : BitVec 4 := d.extractLsb' 0 4

/-- `d[4:0]`. -/
def lo5 (d : Byte) : BitVec 5 := d.extractLsb' 0 5

/-- `d[2:0]`. -/
def lo3 (d : Byte) : BitVec 3 := d.extractLsb' 0 3

/-- `d[5:4]`. -/
def size2 (d : Byte) : BitVec 2 := d.extractLsb' 4 2

/-- `d[7:1]`, the colour-luma code. -/
def colourCode (d : Byte) : BitVec 7 := d.extractLsb' 1 7

/-- A bit as a number. -/
def bitNat (b : Bool) : Nat := if b then 1 else 0

/-- A byte from its eight bits, the most significant first. -/
def byteOfBits (b7 b6 b5 b4 b3 b2 b1 b0 : Bool) : Byte :=
  BitVec.ofNat 8 (bitNat b7 * 128 + bitNat b6 * 64 + bitNat b5 * 32 + bitNat b4 * 16 + bitNat b3 * 8 + bitNat b2 * 4
    + bitNat b1 * 2 + bitNat b0)

/-- The byte with its bit order reversed: `result[k] = d[7 - k]` (R212, function 4). -/
def reverseBits (d : Byte) : Byte :=
  byteOfBits (bit d 0) (bit d 1) (bit d 2) (bit d 3) (bit d 4) (bit d 5) (bit d 6) (bit d 7)

/-! ## Arithmetic primitives (R9) -/

/-- `emod(a, n)`, the Euclidean remainder, for `n > 0` (R9). -/
def emod (a : Int) (n : Nat) : Nat := (a % (n : Int)).toNat

/-- `sext_4(v)` (R9). -/
def sext4 (v : BitVec 4) : Int := v.toInt

/-- `2 ^ size`, the width of a missile or of the ball in clocks (R323, R328). -/
def widthOf (size : BitVec 2) : Nat := 2 ^ size.toNat

end Sys2Proof.Machine
end

