-- ==== Sys2Proof/Machine/Ranges.lean ====
section
/-! DEFINITION. The legal range of every state element, as `10_state.md` declares it (R22 to R30, R40 to R43) and R44
collects it. The ranges are what the invariant says; no operation checks them, but for `SETINPUT` (R463). -/

namespace Sys2Proof.Machine

/-! ## Tags (R141) -/

/-- The tag of a kind of the standard family. -/
def StdKind.tag : StdKind → Tag
  | .f8 => .f8
  | .f6 => .f6
  | .f4 => .f4

/-- The tag of the active variant (R22: "every variant record has a constant tag"). -/
def Mapper.tag : Mapper → Tag
  | .unknown => .unknown
  | .std m => m.kind.tag
  | .fa _ => .fa
  | .f0 _ => .f0
  | .e0 _ => .e0
  | .m3f _ => .m3f
  | .fe _ => .fe
  | .e7 _ => .e7
  | .dpc _ => .dpc
  | .ar66 _ => .ar66
  | .c0 _ => .c0

/-! ## Ranges of the mapper's private state (R22) -/

/-- A pointer's flag is 0x00 or 0xFF (R22). -/
def Pointer.ok (p : Pointer) : Bool := p.flag == 0x00 || p.flag == 0xFF

/-- R22: "only indices 5..7 are ever set" of `musicMode`. -/
def Pointers.ok (p : Pointers) : Bool :=
  p.q0.ok && p.q1.ok && p.q2.ok && p.q3.ok && p.q4.ok && p.q5.ok && p.q6.ok && p.q7.ok
    && !p.q0.musicMode && !p.q1.musicMode && !p.q2.musicMode && !p.q3.musicMode && !p.q4.musicMode

/-- The range of a variant's private state, for an image of `n` bytes (R22, R44). -/
def Mapper.ok (n : Nat) : Mapper → Bool
  | .unknown => true
  | .std m => decide (m.bank < m.kind.nbanks) && Mem.ok 128 m.scRam
  | .fa m => decide (m.bank < 3) && Mem.ok 256 m.ram
  | .f0 bank => decide (bank < 16)
  | .e0 m => decide (m.slice0 < 8) && decide (m.slice1 < 8) && decide (m.slice2 < 8)
  | .m3f bank => decide (bank < n / 2048)
  | .fe bank => decide (bank < 2)
  | .e7 m => (decide (m.bank ≤ 6) || m.bank == 8) && decide (m.ramBank < 4) && Mem.ok 1024 m.ram1k && Mem.ok 1024 m.ram256
  | .dpc m => decide (m.bank < 2) && m.ptr.ok && decide (m.oscTicks < Config.dpcOscTicks)
  | .ar66 m => Mem.ok Config.arRamSize m.ram && decide (m.heldCount ≤ 6)
  | .c0 ram => Mem.ok 1024 ram

/-! ## Ranges of the other components -/

/-- R23, R25 to R27, R44: beam and object positions, and the framebuffer array. -/
def Tia.ok (t : Tia) : Bool :=
  decide (-Config.hblankClocks ≤ t.x) && decide (t.x < Config.visibleClocks) && decide (Config.yTop .pal ≤ t.y) && decide (t.y ≤ Config.yMax)
    && decide (t.p0.pos < Config.visibleClocks) && decide (t.p1.pos < Config.visibleClocks) && decide (t.m0.pos < Config.visibleClocks) && decide (t.m1.pos < Config.visibleClocks)
    && decide (t.bl.pos < Config.visibleClocks) && Mem.ok (Config.fbH * Config.fbW * 4) t.fb

/-- R40, R44. -/
def Timer.ok (t : Timer) : Bool := decide (1 ≤ t.sub) && decide (t.sub ≤ 1024)

/-- R42, R44: the shift registers are never 0. -/
def Channel.ok (c : Channel) : Bool :=
  decide (c.sub ≤ 14) && decide (c.div31 ≤ 30) && c.poly4 != 0 && c.poly5 != 0 && c.poly9 != 0

/-- R43, R44; R540: `acc <= 30 * n`. -/
def Apu.ok (a : Apu) : Bool :=
  a.ch0.ok && a.ch1.ok && decide (a.clk < Config.audioClockDiv) && decide (a.acc ≤ 30 * a.n)
    && decide (a.buf.length ≤ Config.audioBufCap) && a.buf.length % 4 == 0

/-- R446: "`cycles >= io.paddleStart` always". -/
def Io.ok (cycles : Nat) (io : Io) : Bool := decide (io.paddleStart ≤ cycles)

/-- R380: `-135 <= pos <= 135`. -/
def Paddle.ok (p : Paddle) : Bool := decide (-135 ≤ p.pos) && decide (p.pos ≤ 135)

/-- R380, for the four paddles. -/
def Input.ok (i : Input) : Bool := i.paddle0.ok && i.paddle1.ok && i.paddle2.ok && i.paddle3.ok

/-- The saved mapper's private state is in range for an image of `n` bytes (R466). -/
def SavedMapper.ok (n : Nat) : SavedMapper → Bool
  | .variant m => m.ok n
  | .unknownTag _ => true

/-- A snapshot of a state in range, together with the image it is loaded with. `SNAPSHOT.LOAD` does not check this (R467;
log entry 26). -/
def Snapshot.ok (snap : Snapshot) (image : Image) : Bool :=
  Mem.ok Config.ramSize snap.ram && snap.timer.ok && snap.tia.ok && snap.apu.ok && snap.io.ok snap.cycles
    && snap.input.ok && snap.mapper.ok image.size && image.ok

end Sys2Proof.Machine
end

