-- ==== Sys2Proof/Machine/Reset.lean ====
section
/-! DEFINITION. The Reset column of `10_state.md`, component by component: zero, false or empty, with the deviations of
R511 (D6). -/

namespace Sys2Proof.Machine

/-- A player at reset (R25, R511). -/
def resetPlayer : Player := ⟨0, 0, 0, 0, 0, false, false, 0⟩

/-- A missile at reset (R26, R511). -/
def resetMissile : Missile := ⟨0, 0, false, 0, false⟩

/-- The ball at reset (R27, R511). -/
def resetBall : Ball := ⟨0, 0, false, false, false, 0⟩

/-- No collision (R29): also what `CXCLR` leaves (R286). -/
def noCollisions : Collisions :=
  ⟨false, false, false, false, false, false, false, false, false, false, false, false, false, false, false⟩

/-- The video chip at reset: `x = -68`, everything else zero (R23, R511). -/
def resetTia : Tia where
  x := -Config.hblankClocks
  y := 0
  frameReady := false
  waitHBlank := false
  vsync := false
  lastFrameLines := 0
  vblankBlank := false
  vblankLatch := false
  vblankDump := false
  fb := []
  p0 := resetPlayer
  p1 := resetPlayer
  m0 := resetMissile
  m1 := resetMissile
  bl := resetBall
  pfToLoad := 0
  pfActive := 0
  pfReflect := false
  pfScore := false
  pfPriority := false
  colupf := 0
  colubk := 0
  cx := noCollisions
  hmovePending := false
  hmoveLate := false
  comb := false

/-- The timer at reset: divider 1024 (R40, R511, D21). -/
def resetTimer : Timer := ⟨0, .d1024, 1024, false, false⟩

/-- Ports and input sampling at reset: the two latches read "not pressed" (R41, R511). -/
def resetIo : Io := ⟨0, 0, 0, 0, true, true, 0, false, false, false, false⟩

/-- A sound channel at reset: the shift registers all ones (R42, R511, D26). -/
def resetChannel : Channel := ⟨0, 0, 0, 0, 0, 0xF, 0x1F, 0x1FF, 0, false⟩

/-- Sound at reset (R42, R43, R511). -/
def resetApu : Apu := ⟨resetChannel, resetChannel, 0, 0, 0, []⟩

/-- A joystick with nothing pressed. -/
def neutralJoystick : Joystick := ⟨false, false, false, false, false⟩

/-- A paddle at 0 degrees, not pressed. -/
def neutralPaddle : Paddle := ⟨false, 0⟩

/-- A keypad with no key pressed. -/
def neutralKeypad : Keypad :=
  ⟨⟨false, false, false⟩, ⟨false, false, false⟩, ⟨false, false, false⟩, ⟨false, false, false⟩⟩

/-- "The neutral input has every `bool` false and every `pos` 0" (R380). -/
def neutralInput : Input :=
  ⟨neutralJoystick, neutralJoystick, neutralPaddle, neutralPaddle, neutralPaddle, neutralPaddle, false, false, false,
    false, neutralKeypad, neutralKeypad⟩

/-- A data pointer of a fresh DPC (R22). -/
def resetPointer : Pointer := ⟨0, 0, 0, 0, false⟩

/-- The pointers of a fresh DPC (R22). -/
def resetPointers : Pointers :=
  ⟨resetPointer, resetPointer, resetPointer, resetPointer, resetPointer, resetPointer, resetPointer, resetPointer⟩

/-- `fresh(v)`: the variant `v` with the reset values of R22 (R144, R146, D48). -/
def fresh : Tag → Mapper
  | .unknown => .unknown
  | .f8 => .std ⟨.f8, 0, false, []⟩
  | .f6 => .std ⟨.f6, 0, false, []⟩
  | .f4 => .std ⟨.f4, 0, false, []⟩
  | .fa => .fa ⟨0, []⟩
  | .f0 => .f0 0
  | .e0 => .e0 ⟨0, 0, 0⟩
  | .m3f => .m3f 0
  | .fe => .fe 0
  | .e7 => .e7 ⟨0, 0, [], []⟩
  | .dpc => .dpc ⟨0, resetPointers, 1, 0⟩
  | .ar66 => .ar66 ⟨[], 0, 0, false, 0, 0, 0⟩
  | .c0 => .c0 []

/-- The system bus at reset (R21). -/
def resetBus : Bus := ⟨[], fresh .unknown, 0, 0, 0⟩

end Sys2Proof.Machine
end

