-- ==== Sys2Proof/Machine/State.lean ====
section
/-! DEFINITION. The state of the block (`10_state.md`), the reasons a step can stop, and the state after reset. -/

namespace Sys2Proof.Machine

/-- What an operation returned to its caller (R3, R4, R461, R462, R466, R467, R470). -/
inductive Reply where
  /-- The operation returns nothing. -/
  | none
  /-- The byte of a bus read (R121). -/
  | byte (v : Byte)
  /-- Bytes in order: sound bytes (R462), or the bytes an instruction of the core read (R440). -/
  | bytes (vs : List Byte)
  /-- The answer of `FRAMEREADY?` (R460). -/
  | flag (b : Bool)
  /-- The framebuffer bytes of `READFB` (R461). -/
  | framebuffer (fb : Mem)
  /-- The snapshot of `SNAPSHOT.SAVE` (R466). -/
  | snapshot (snap : Snapshot)
  /-- `SNAPSHOT.LOAD` succeeded (R467). -/
  | loaded
  /-- `SNAPSHOT.LOAD` failed, with the recorded value of R480 (R467, R483). -/
  | loadFailed (kind : LoadFailure) (info : Int)
  /-- The format of `FORMAT.CLASSIFY` (R470). -/
  | format (f : TvFormat)
  deriving DecidableEq, Repr

/-- What power-on hands the processor core (R447): the reset flag, and for the "66" variant the entry address (R236). -/
structure CoreStart where
  resetFlag : Bool
  entry     : Option (BitVec 16)
  deriving DecidableEq, Repr

/-- The root aggregate (R20), the configuration it runs with (R7), what power-on handed the core (R447), and the model's
own `inbox`, `reply` and `draws` (log entries 1, 11, 3). -/
structure State where
  cycles    : Nat
  bus       : Bus
  timer     : Timer
  tia       : Tia
  apu       : Apu
  io        : Io
  input     : Input
  fatal     : Option FatalError
  anomalies : List Anomaly
  image     : Image
  tvFormat  : TvFormat
  mode0     : ControllerMode
  mode1     : ControllerMode
  coreStart : Option CoreStart
  inbox     : List Request
  reply     : Reply
  draws     : Nat
  deriving DecidableEq, Repr

/-- Where the machine stops. -/
inductive Fault where
  /-- Raised by an operation that advances or changes a block whose run has ended (R481: "no further state change",
  U15): the ticks, `CYCLE`, `RUN`, `INPUT.SAMPLE`, the mapper events, `SETINPUT`, `SNAPSHOT.LOAD`. Safe: the model stops
  where the spec defines no effect. -/
  | stuckAfterFatal
  deriving DecidableEq, Repr

/-- Why an operation is not executed. -/
inductive Refusal where
  /-- Raised by no meaning: the word of a dispatch arm that has no meaning yet. Safe. -/
  | notModelled (mnemonic : String)
  /-- Raised by a bus transaction after `fatal` (R130, R481: "no bus operation is defined"). Safe. -/
  | afterFatal
  /-- Raised by a row of another variant than the active one, which the decoder never hands out (R92, R100). Safe. -/
  | variantNotActive
  /-- Raised by `step` for a request the decoder refuses: a reserved event code, or an operand of another kind than
  the event's (R98, R99, U17; log entry 10). Safe. -/
  | notAnOperation
  /-- Raised by `SETINPUT` for a paddle position outside -135..135 (R463, U12). Safe. -/
  | paddleOutOfRange
  deriving DecidableEq, Repr

/-- Every state element at its Reset column value (R510 step 1, R511), with no cartridge and the default configuration.
[DESIGN CHOICE: log entries 1, 2, 3, 11, 14] -/
def State.reset : State where
  cycles := 0
  bus := resetBus
  timer := resetTimer
  tia := resetTia
  apu := resetApu
  io := resetIo
  input := neutralInput
  fatal := none
  anomalies := []
  image := Image.empty
  tvFormat := .ntsc
  mode0 := Config.defaultMode
  mode1 := Config.defaultMode
  coreStart := none
  inbox := []
  reply := .none
  draws := 0

end Sys2Proof.Machine
end

