-- ==== Sys2Proof/Machine/Ops.lean ====
section
/-! DEFINITION. The shared operations: updating one component, errors and anomalies (R481, R484), draws (R11), the
image, and the frame that every bus transaction has: detection first, then the snoop hook, then the addressed register,
then the `last...` fields (R121, R122). -/

namespace Sys2Proof.Machine

/-! ## One component -/

/-- Replaces the video chip. -/
def State.setTia (t : Tia) (s : State) : State := { s with tia := t }

/-- Replaces the ports and input sampling. -/
def State.setIo (io : Io) (s : State) : State := { s with io := io }

/-- Replaces the timer. -/
def State.setTimer (t : Timer) (s : State) : State := { s with timer := t }

/-- Replaces the sound part. -/
def State.setApu (a : Apu) (s : State) : State := { s with apu := a }

/-- Replaces the active mapper. -/
def State.setMapper (m : Mapper) (s : State) : State := { s with bus := { s.bus with mapper := m } }

/-- `bus.ram[k] <- d`. -/
def State.setRam (k : Nat) (d : Byte) (s : State) : State := { s with bus := { s.bus with ram := s.bus.ram.write k d } }

/-- Hands the caller the operation's answer. -/
def State.answer (r : Reply) (s : State) : State := { s with reply := r }

/-! ## Errors (R481, R484) -/

/-- `raise Fatal(kind, info)`: records the error, which is the report to the processor core (R481). -/
def State.raiseFatal (kind : FatalKind) (info : Nat) (s : State) : State := { s with fatal := some ⟨kind, info⟩ }

/-- `log(kind, info)`: appends to `anomalies` and does nothing else (R484). The `info` is the value the rule names and the
13-bit address of the access. -/
def State.log (kind : AnomalyKind) (value : Nat) (addr : Addr) (s : State) : State :=
  { s with anomalies := s.anomalies ++ [⟨kind, value, a13 addr⟩] }

/-- Has the run ended (R481)? -/
def State.ended (s : State) : Bool := s.fatal.isSome

/-- An operation that runs only while the run has not ended, and returns nothing (R481, U15). -/
def whileLive (f : State → State) (s : State) : Host.Outcome State Fault Refusal :=
  if s.ended then .fault .stuckAfterFatal else .next ((f s).answer .none)

/-! ## Draws (R11): a free value and the state after it -/

/-- The state after one draw. -/
def State.drew (s : State) : State := { s with draws := s.draws + 1 }

/-- `draw_8()`. -/
def drawByte (s : State) : Byte × State := (Config.draw8 s.draws, s.drew)

/-- `draw_6()`. -/
def drawSix (s : State) : BitVec 6 × State := (Config.draw6 s.draws, s.drew)

/-- `draw_1()`. -/
def drawBit (s : State) : Bool × State := (Config.draw1 s.draws, s.drew)

/-! ## The image (R60, R72) -/

/-- `image[i]`; an index outside the image maps to nothing and reads as a draw (R72; log entry 6). -/
def romByte (i : Nat) (s : State) : Byte × State :=
  if i < s.image.size then (s.image.bytes.read i, s) else drawByte s

/-! ## Detection on access (R146, R148) -/

/-- The guard of the `3F` heuristic: the previous write was not to 0x3E or 0x40 (R148, R177). -/
def guard3F (prevW : Nat) : Bool := prevW != 0x3E && prevW != 0x40

/-- `detectRule(n, a, isWrite, prevW)` (R148). -/
def detectRule (n a : Nat) (isWrite : Bool) (prevW : Nat) : Option Tag :=
  if n = 8192 then
    if within 0x1FF8 0x1FF9 a then some .f8
    else if isWrite && a == 0x3F && guard3F prevW then some .m3f
    else none
  else if n = 12288 then if within 0x1FF8 0x1FFA a then some .fa else none
  else if n = 16384 then if within 0x1FF6 0x1FF9 a then some .f6 else none
  else if n = 32768 then if within 0x1FF4 0x1FFB a then some .f4 else none
  else if n = 65536 then if a = 0x1FF0 then some .f0 else none
  else none

/-- `MAPPER.RESOLVE(addr, isWrite)` (R146). -/
def resolve (addr : Addr) (isWrite : Bool) (s : State) : State :=
  if s.bus.mapper.tag ≠ .unknown ∨ s.image.size ≤ 4096 then s
  else
    match detectRule s.image.size (a13 addr) isWrite (a13 s.bus.lastWriteAddr) with
    | some v => s.setMapper (fresh v)
    | none => s

/-! ## Snoop hooks (R123, R177) -/

/-- `NB`, the 2 KB banks of a `3F` image (R175). -/
def banks3F (s : State) : Nat := s.image.size / 2048

/-- `emod(d, NB)` (R177). An image of no banks has no remainder: a free value (log entry 17). -/
def bankOf3F (d : Byte) (s : State) : Nat := if banks3F s = 0 then Config.emodZero d.toNat else d.toNat % banks3F s

/-- `M3F.snoopWrite(addr, d)` (R177); every other variant does nothing (R123). -/
def snoopWrite (addr : Addr) (d : Byte) (s : State) : State :=
  match s.bus.mapper with
  | .m3f _ =>
    if lowTia addr then
      if guard3F (a13 s.bus.lastWriteAddr) then s.setMapper (.m3f (bankOf3F d s))
      else s.log .heuristicAmbiguity (a13 addr) addr
    else s
  | _ => s

/-- The hook of an access; `snoopRead` does nothing for every variant (R123). -/
def snoop (addr : Addr) (acc : Access) (s : State) : State :=
  match acc with
  | .rd => s
  | .wr d => snoopWrite addr d s

/-- What comes before the dispatch of every access: detection, then the hook (R121, R122). -/
def opened (addr : Addr) (acc : Access) (s : State) : State := snoop addr acc (resolve addr acc.isWrite s)

/-! ## Bus transactions (R121, R122) -/

/-- The last actions of `BUS.RD`: the `last...` fields, and the byte for the caller. -/
def closeRead (addr : Addr) (r : Byte × State) : State :=
  { r.2 with bus := { r.2.bus with lastReadAddr := addr, lastAccessAddr := addr }, reply := .byte r.1 }

/-- The last actions of `BUS.WR`. -/
def closeWrite (addr : Addr) (s : State) : State :=
  { s with bus := { s.bus with lastWriteAddr := addr, lastAccessAddr := addr }, reply := .none }

/-- A bus read served outside cartridge space by `serve`. -/
def readCycle (addr : Addr) (serve : State → Byte × State) (s : State) : Host.Outcome State Fault Refusal :=
  if s.ended then .refused .afterFatal else .next (closeRead addr (serve (opened addr .rd s)))

/-- A bus write served outside cartridge space by `serve`. -/
def writeCycle (addr : Addr) (d : Byte) (serve : State → State) (s : State) : Host.Outcome State Fault Refusal :=
  if s.ended then .refused .afterFatal else .next (closeWrite addr (serve (opened addr (.wr d) s)))

/-- A read of cartridge space served by a variant: `pick` gives its record if it is the active one. -/
def cartRead {α : Type} (pick : Mapper → Option α) (addr : Addr) (serve : α → State → Byte × State) (s : State) :
    Host.Outcome State Fault Refusal :=
  if s.ended then .refused .afterFatal
  else
    match pick (opened addr .rd s).bus.mapper with
    | none => .refused .variantNotActive
    | some m => .next (closeRead addr (serve m (opened addr .rd s)))

/-- A write to cartridge space served by a variant. -/
def cartWrite {α : Type} (pick : Mapper → Option α) (addr : Addr) (d : Byte) (serve : α → State → State) (s : State) :
    Host.Outcome State Fault Refusal :=
  if s.ended then .refused .afterFatal
  else
    match pick (opened addr (.wr d) s).bus.mapper with
    | none => .refused .variantNotActive
    | some m => .next (closeWrite addr (serve m (opened addr (.wr d) s)))

/-- An access of either kind to cartridge space served by a variant. -/
def cartAccess {α : Type} (pick : Mapper → Option α) (addr : Addr) (acc : Access) (onRead : α → State → Byte × State)
    (onWrite : α → Byte → State → State) (s : State) : Host.Outcome State Fault Refusal :=
  match acc with
  | .rd => cartRead pick addr onRead s
  | .wr d => cartWrite pick addr d (fun m => onWrite m d) s

/-- A write that stores nothing (ROM and the read ports of the variants). -/
def storeNothing {α : Type} (_ : α) (_ : Byte) (s : State) : State := s

/-- A write of a row that stores nothing. -/
def keepState {α : Type} (_ : α) (s : State) : State := s

end Sys2Proof.Machine
end

