-- ==== Sys2Proof/Machine/CartAr.lean ====
section
/-! DEFINITION. The variant "66" (R225 to R236). -/

namespace Sys2Proof.Machine

/-! ## Effects -/

/-- The active record of "66". -/
def pickAr : Mapper → Option Ar
  | .ar66 m => some m
  | _ => none

/-- `ctrl[4:2]`, the window configuration (R226). -/
def arConfig (ctrl : Byte) : Nat := ctrl.toNat / 4 % 8

/-- The RAM bank of the lower window (R226). -/
def arLowerBank (ctrl : Byte) : Nat :=
  match arConfig ctrl with
  | 1 => 0
  | 3 => 0
  | 5 => 1
  | 7 => 1
  | _ => 2

/-- The RAM bank of the upper window; none where it holds the firmware ROM (R226). -/
def arUpperBank (ctrl : Byte) : Option Nat :=
  match arConfig ctrl with
  | 2 => some 0
  | 3 => some 2
  | 6 => some 1
  | 7 => some 2
  | _ => none

/-- `arMap(a)`: the RAM byte an address reaches, none for the firmware ROM (R226). -/
def arMap (ctrl : Byte) (addr : Addr) : Option Nat :=
  if addr.getLsbD 11 then (arUpperBank ctrl).map (fun b => b * 2048 + a11 addr)
  else some (arLowerBank ctrl * 2048 + a11 addr)

/-- The latch of an access to 0x1000..0x10FF, unless a write is pending with writes enabled (R227, R228). -/
def Ar.latch (addr : Addr) (m : Ar) : Ar :=
  if !m.pending || !bit m.ctrl 1 then { m with latched := addr.extractLsb' 0 8, pending := true } else m

/-- The control register takes the latched byte; the pending write is cancelled (R227, R229). -/
def Ar.control (m : Ar) : Ar := { m with ctrl := m.latched, pending := false }

/-- The byte of a read: RAM, or a draw and a log entry for the firmware ROM (R230). -/
def arByte (addr : Addr) (m : Ar) (s : State) : Byte × State :=
  match arMap m.ctrl addr with
  | some off => (m.ram.read off, s)
  | none => drawByte (s.log .unimplementedRegister (a13 addr) addr)

/-- A read that changes the record by `f` first (R227, R230). -/
def arTouchRead (f : Ar → Ar) (addr : Addr) (m : Ar) (s : State) : Byte × State :=
  arByte addr (f m) (s.setMapper (.ar66 (f m)))

/-- A write: the change of the record, the data byte is ignored (R231). -/
def arTouchWrite (f : Ar → Ar) (m : Ar) (_ : Byte) (s : State) : State := s.setMapper (.ar66 (f m))

/-! ## The access for any address -/

/-- `AR66.access(a)` (R227). -/
def Ar.access (addr : Addr) (m : Ar) : Ar :=
  let m1 := if a13 addr ≤ 0x10FF then m.latch addr else m
  if a13 addr = 0x1FF8 then m1.control else m1

/-- `AR66.read(a)`. -/
def arRead (addr : Addr) (m : Ar) (s : State) : Byte × State := arTouchRead (Ar.access addr) addr m s

/-- `AR66.write(a, d)`. -/
def arWrite (addr : Addr) (d : Byte) (m : Ar) (s : State) : State := arTouchWrite (Ar.access addr) m d s

/-! ## Write pulse (R232) -/

/-- The hold counter after a tick that sees the address `t` (R232). -/
def Ar.observe (t : Addr) (m : Ar) : Ar :=
  if t = m.heldAddr then { m with heldCount := min (m.heldCount + 1) 6 } else { m with heldAddr := t, heldCount := 1 }

/-- The pulse's end: the latched byte is stored if writes are enabled and the address reaches RAM (R232). -/
def Ar.commit (t : Addr) (m : Ar) : Ar :=
  if t.getLsbD 12 && bit m.ctrl 1 then
    match arMap m.ctrl t with
    | some off => { m with ram := m.ram.write off m.latched, pending := false }
    | none => { m with pending := false }
  else { m with pending := false }

/-- `AR.TICK` on the variant's record, with `t = bus.lastAccessAddr` (R232). -/
def Ar.tick (t : Addr) (m : Ar) : Ar :=
  if (m.observe t).heldCount = Config.arPulseCycles ∧ m.pending then (m.observe t).commit t else m.observe t

/-! ## Initialisation (R236) -/

/-- Writes `count` draws from index `k` on: image bytes that do not exist (log entry 6). -/
def fillDrawn : Nat → Nat → Mem × State → Mem × State
  | 0, _, r => r
  | count + 1, k, r => fillDrawn count (k + 1) (r.1.write k (Config.draw8 r.2.draws), r.2.drew)

/-- The first 6 KB of the image (R236). -/
def arImageRam (s : State) : Mem × State :=
  fillDrawn (Config.arRamSize - s.image.size) s.image.size (s.image.bytes.take Config.arRamSize, s)

/-- `AR66.initialize`: RAM from the image, entry vector and control byte from its tail (R236). The line `pc <- m.entry`,
which hands the entry to the core, is `startCore`, part of power-on only (DESIGN CHOICE, log entry 28). -/
def arInitialize (s : State) : State :=
  let ram := arImageRam s
  let lo := romByte Config.arEntryOffset ram.2
  let hi := romByte (Config.arEntryOffset + 1) lo.2
  let ctrl := romByte (Config.arEntryOffset + 2) hi.2
  ctrl.2.setMapper (.ar66 ⟨ram.1, ctrl.1, 0, false, 0, 0, hi.1 ++ lo.1⟩)

/-! ## Rows -/

/-- `AR.LATCH`, R228. -/
def execArLatch (addr : Addr) (acc : Access) (s : State) : Host.Outcome State Fault Refusal :=
  cartAccess pickAr addr acc (arTouchRead (Ar.latch addr) addr) (arTouchWrite (Ar.latch addr)) s

/-- `AR.CTRL`, R229. -/
def execArCtrl (addr : Addr) (acc : Access) (s : State) : Host.Outcome State Fault Refusal :=
  cartAccess pickAr addr acc (arTouchRead Ar.control addr) (arTouchWrite Ar.control) s

/-- `AR.MEM.RD`, R230. -/
def execArMemRd (addr : Addr) (s : State) : Host.Outcome State Fault Refusal :=
  cartRead pickAr addr (arByte addr) s

/-- `AR.MEM.WR`, R231. -/
def execArMemWr (addr : Addr) (d : Byte) (s : State) : Host.Outcome State Fault Refusal :=
  cartWrite pickAr addr d keepState s

end Sys2Proof.Machine
end

