-- ==== Sys2Proof/Machine/CartDpc.lean ====
section
/-! DEFINITION. The variant DPC (R200 to R218). -/

namespace Sys2Proof.Machine

/-! ## Pointers -/

/-- The active record of `DPC`. -/
def pickDpc : Mapper → Option Dpc
  | .dpc m => some m
  | _ => none

/-- Data pointer `i`, `i = a[2:0]`. -/
def Pointers.get (p : Pointers) (i : Nat) : Pointer :=
  match i with
  | 0 => p.q0
  | 1 => p.q1
  | 2 => p.q2
  | 3 => p.q3
  | 4 => p.q4
  | 5 => p.q5
  | 6 => p.q6
  | _ => p.q7

/-- Replaces data pointer `i`. -/
def Pointers.set (p : Pointers) (i : Nat) (q : Pointer) : Pointers :=
  match i with
  | 0 => { p with q0 := q }
  | 1 => { p with q1 := q }
  | 2 => { p with q2 := q }
  | 3 => { p with q3 := q }
  | 4 => { p with q4 := q }
  | 5 => { p with q5 := q }
  | 6 => { p with q6 := q }
  | _ => { p with q7 := q }

/-- `counter[i][7:0]`. -/
def Pointer.low (p : Pointer) : Byte := p.counter.extractLsb' 0 8

/-- `counter[i][15:8]`. -/
def Pointer.high (p : Pointer) : Byte := p.counter.extractLsb' 8 8

/-- `counter[i] <- high : low`. -/
def Pointer.setCounter (high low : Byte) (p : Pointer) : Pointer := { p with counter := high ++ low }

/-- A pointer that music mode can apply to: `i >= 5` and `musicMode[i]` (R210, R215). -/
def Pointer.music (i : Nat) (p : Pointer) : Bool := decide (5 ≤ i) && p.musicMode

/-- The display window: it opens at `top`, and closes at `bottom` (R210). -/
def Pointer.window (p : Pointer) : Pointer :=
  if p.low = p.top then { p with flag := 0xFF }
  else if p.low = p.bottom then { p with flag := 0x00 }
  else p

/-- The decrement of a read; a music-mode pointer keeps its counter (R210). -/
def Pointer.counted (i : Nat) (p : Pointer) : Pointer := if p.music i then p else { p with counter := p.counter - 1 }

/-! ## Random generator (R208) -/

/-- One step of the generator: shift left, feedback into bit 0 (R208). -/
def rngNext (r : Byte) : Byte :=
  BitVec.concat (r.extractLsb' 0 7) (true ^^ (r.getLsbD 7 ^^ r.getLsbD 5 ^^ r.getLsbD 4 ^^ r.getLsbD 3))

/-- `rngStep` (R208). -/
def Dpc.rngStep (m : Dpc) : Dpc := { m with rng := rngNext m.rng }

/-- Replaces data pointer `i`. -/
def Dpc.setPtr (i : Nat) (p : Pointer) (m : Dpc) : Dpc := { m with ptr := m.ptr.set i p }

/-! ## Program ROM (R205, R206) -/

/-- `m.bank <- b` (R205). -/
def Dpc.select (b : Nat) (m : Dpc) : Dpc := { m with bank := b }

/-- `image[m.bank * 4096 + a[11:0]]` (R206). -/
def dpcRomByte (addr : Addr) (m : Dpc) (s : State) : Byte × State := romByte (m.bank * 4096 + a12 addr) s

/-- A hotspot read: the switch first (R205). -/
def dpcBankRead (b : Nat) (addr : Addr) (m : Dpc) (s : State) : Byte × State :=
  dpcRomByte addr (m.select b) (s.setMapper (.dpc (m.select b)))

/-- A hotspot write: the switch only (R205). -/
def dpcBankWrite (b : Nat) (m : Dpc) (_ : Byte) (s : State) : State := s.setMapper (.dpc (m.select b))

/-- A read outside the read registers: ROM, or a draw in the write registers' window (R206). -/
def dpcRomRead (addr : Addr) (m : Dpc) (s : State) : Byte × State :=
  if a13 addr ≤ 0x107F then drawByte s else dpcRomByte addr m s

/-! ## Read registers (R210 to R212) -/

/-- `MUSIC_AMP[k]` (R211). -/
def musicAmp (k : Nat) : Byte :=
  match k with
  | 0 => 0x00
  | 1 => 0x04
  | 2 => 0x05
  | 3 => 0x09
  | 4 => 0x06
  | 5 => 0x0A
  | 6 => 0x0B
  | _ => 0x0F

/-- Does a pointer take part in the mix (R211)? -/
def Pointer.active (p : Pointer) : Bool := p.musicMode && p.flag != 0

/-- The index of the mixer table (R211). -/
def Dpc.mixIndex (m : Dpc) : Nat :=
  (if m.ptr.q5.active then 1 else 0) + (if m.ptr.q6.active then 2 else 0) + (if m.ptr.q7.active then 4 else 0)

/-- `result` of function 0 for `i < 4`: the generator (R211). -/
def dpcRng (_ : Nat) (m : Dpc) (s : State) : Byte × State := (m.rng, s)

/-- `result` of function 0 for `i >= 4`: the mixer (R211). -/
def dpcMusic (_ : Nat) (m : Dpc) (s : State) : Byte × State := (musicAmp m.mixIndex, s)

/-- `byte = image[8192 + (2047 - counter[i][10:0])]` (R212). -/
def dpcByte (i : Nat) (m : Dpc) (s : State) : Byte × State :=
  romByte (8192 + (2047 - (m.ptr.get i).counter.toNat % 2048)) s

/-- `g = byte and flag[i]`, then a permutation `f` of its bits (R212). -/
def dpcGated (f : Byte → Byte) (i : Nat) (m : Dpc) (s : State) : Byte × State :=
  let r := dpcByte i m s
  (f (r.1 &&& (m.ptr.get i).flag), r.2)

/-- `g` itself (R212, function 2). -/
def gatedPlain (g : Byte) : Byte := g

/-- `g[3:0] : g[7:4]` (R212, function 3). -/
def swapNibbles (g : Byte) : Byte := lo4 g ++ hi4 g

/-- `g[0] : g[7:1]` (R212, function 5). -/
def rotateRight (g : Byte) : Byte := BitVec.cons (g.getLsbD 0) (g.extractLsb' 1 7)

/-- `g[6:0] : g[7]` (R212, function 6). -/
def rotateLeft (g : Byte) : Byte := BitVec.concat (g.extractLsb' 0 7) (g.getLsbD 7)

/-- `flag[i]` (R212, function 7). -/
def dpcFlag (i : Nat) (m : Dpc) (s : State) : Byte × State := ((m.ptr.get i).flag, s)

/-- The record when `result` is evaluated: generator stepped, window updated (R210). -/
def Dpc.latched (i : Nat) (m : Dpc) : Dpc := m.rngStep.setPtr i (m.ptr.get i).window

/-- The record after a read of pointer `i` (R210). -/
def Dpc.afterRead (i : Nat) (m : Dpc) : Dpc := m.rngStep.setPtr i ((m.ptr.get i).window.counted i)

/-- `DPC.RD`, with the function's `result` (R210). -/
def dpcRegRead (result : Nat → Dpc → State → Byte × State) (addr : Addr) (m : Dpc) (s : State) : Byte × State :=
  let r := result (a3 addr) (m.latched (a3 addr)) s
  (r.1, r.2.setMapper (.dpc (m.afterRead (a3 addr))))

/-! ## Write registers (R213 to R218) -/

/-- `top[i] <- d; flag[i] <- 0x00` (R213). -/
def Pointer.writeTop (d : Byte) (_ : Nat) (p : Pointer) : Pointer := { p with top := d, flag := 0x00 }

/-- `bottom[i] <- d` (R214). -/
def Pointer.writeBottom (d : Byte) (_ : Nat) (p : Pointer) : Pointer := { p with bottom := d }

/-- The low counter byte: a music-mode pointer reloads `top[i]` instead of `d` (R215). -/
def Pointer.writeLow (d : Byte) (i : Nat) (p : Pointer) : Pointer :=
  p.setCounter p.high (if p.music i then p.top else d)

/-- The high counter byte, and for pointers 5 to 7 the music mode (R216). -/
def Pointer.writeHigh (d : Byte) (i : Nat) (p : Pointer) : Pointer :=
  { p.setCounter d p.low with musicMode := if 5 ≤ i then bit d 4 else p.musicMode }

/-- A write register that changes pointer `i` by `f`: the generator steps first (R208). -/
def dpcPtrWrite (f : Nat → Pointer → Pointer) (addr : Addr) (m : Dpc) (s : State) : State :=
  s.setMapper (.dpc (m.rngStep.setPtr (a3 addr) (f (a3 addr) (m.ptr.get (a3 addr)))))

/-- `rngStep`, then `m.rng <- 1` (R217). -/
def dpcRngReset (m : Dpc) (s : State) : State := s.setMapper (.dpc { m.rngStep with rng := 1 })

/-- `rngStep` and a log entry (R218). -/
def dpcNotImplemented (addr : Addr) (m : Dpc) (s : State) : State :=
  (s.setMapper (.dpc m.rngStep)).log .unimplementedRegister (a13 addr) addr

/-! ## The access for any address (R200) -/

/-- The read register with function `f` (R211, R212). -/
def dpcFunctionRead (f : Nat) (addr : Addr) (m : Dpc) (s : State) : Byte × State :=
  match f with
  | 0 => if a3 addr < 4 then dpcRegRead dpcRng addr m s else dpcRegRead dpcMusic addr m s
  | 1 => dpcRegRead dpcByte addr m s
  | 2 => dpcRegRead (dpcGated gatedPlain) addr m s
  | 3 => dpcRegRead (dpcGated swapNibbles) addr m s
  | 4 => dpcRegRead (dpcGated reverseBits) addr m s
  | 5 => dpcRegRead (dpcGated rotateRight) addr m s
  | 6 => dpcRegRead (dpcGated rotateLeft) addr m s
  | _ => dpcRegRead dpcFlag addr m s

/-- The write register with function `f` (R213 to R218). -/
def dpcFunctionWrite (f : Nat) (addr : Addr) (d : Byte) (m : Dpc) (s : State) : State :=
  match f with
  | 0 => dpcPtrWrite (Pointer.writeTop d) addr m s
  | 1 => dpcPtrWrite (Pointer.writeBottom d) addr m s
  | 2 => dpcPtrWrite (Pointer.writeLow d) addr m s
  | 3 => dpcPtrWrite (Pointer.writeHigh d) addr m s
  | 6 => dpcRngReset m s
  | _ => dpcNotImplemented addr m s

/-- Rule R205, which every access outside the registers applies first. -/
def Dpc.touch (addr : Addr) (m : Dpc) : Dpc :=
  if within 0x1FF8 0x1FF9 (a13 addr) then m.select (a13 addr - 0x1FF8) else m

/-- `DPC.read(a)`. -/
def dpcRead (addr : Addr) (m : Dpc) (s : State) : Byte × State :=
  if a13 addr ≤ 0x103F then dpcFunctionRead (dpcFunction addr) addr m s
  else dpcRomRead addr (m.touch addr) (s.setMapper (.dpc (m.touch addr)))

/-- `DPC.write(a, d)`. -/
def dpcWrite (addr : Addr) (d : Byte) (m : Dpc) (s : State) : State :=
  if within 0x1040 0x107F (a13 addr) then dpcFunctionWrite (dpcFunction addr) addr d m s
  else s.setMapper (.dpc (m.touch addr))

/-! ## Oscillator (R209) -/

/-- The low byte of a music-mode pointer after an oscillator event (R209). -/
def Pointer.nextLow (p : Pointer) : Byte :=
  if p.top = 0 then 0 else if p.low = 0 then p.top else p.low - 1

/-- A music-mode pointer after an oscillator event (R209). -/
def Pointer.oscillate (p : Pointer) : Pointer :=
  if p.musicMode then
    { p.setCounter p.high p.nextLow with
      flag := if p.nextLow ≤ p.bottom then 0x00 else if p.nextLow ≤ p.top then 0xFF else p.flag }
  else p

/-- `DPC.TICK` on the variant's record (R209). -/
def Dpc.tick (m : Dpc) : Dpc :=
  if m.oscTicks + 1 = Config.dpcOscTicks then
    { m with
      oscTicks := 0
      ptr := { m.ptr with q5 := m.ptr.q5.oscillate, q6 := m.ptr.q6.oscillate, q7 := m.ptr.q7.oscillate } }
  else { m with oscTicks := m.oscTicks + 1 }

/-! ## Rows -/

/-- `DPC.BANK0`, R205. -/
def execDpcBank0 (addr : Addr) (acc : Access) (s : State) : Host.Outcome State Fault Refusal :=
  cartAccess pickDpc addr acc (dpcBankRead 0 addr) (dpcBankWrite 0) s

/-- `DPC.BANK1`, R205. -/
def execDpcBank1 (addr : Addr) (acc : Access) (s : State) : Host.Outcome State Fault Refusal :=
  cartAccess pickDpc addr acc (dpcBankRead 1 addr) (dpcBankWrite 1) s

/-- `DPC.ROM`, R206. -/
def execDpcRom (addr : Addr) (acc : Access) (s : State) : Host.Outcome State Fault Refusal :=
  cartAccess pickDpc addr acc (dpcRomRead addr) storeNothing s

/-- `DPC.RD.RNG`, R211. -/
def execDpcRdRng (addr : Addr) (s : State) : Host.Outcome State Fault Refusal :=
  cartRead pickDpc addr (dpcRegRead dpcRng addr) s

/-- `DPC.RD.MUSIC`, R211. -/
def execDpcRdMusic (addr : Addr) (s : State) : Host.Outcome State Fault Refusal :=
  cartRead pickDpc addr (dpcRegRead dpcMusic addr) s

/-- `DPC.RD.DATA`, R212. -/
def execDpcRdData (addr : Addr) (s : State) : Host.Outcome State Fault Refusal :=
  cartRead pickDpc addr (dpcRegRead dpcByte addr) s

/-- `DPC.RD.GATED`, R212. -/
def execDpcRdGated (addr : Addr) (s : State) : Host.Outcome State Fault Refusal :=
  cartRead pickDpc addr (dpcRegRead (dpcGated gatedPlain) addr) s

/-- `DPC.RD.SWAP`, R212. -/
def execDpcRdSwap (addr : Addr) (s : State) : Host.Outcome State Fault Refusal :=
  cartRead pickDpc addr (dpcRegRead (dpcGated swapNibbles) addr) s

/-- `DPC.RD.REV`, R212. -/
def execDpcRdRev (addr : Addr) (s : State) : Host.Outcome State Fault Refusal :=
  cartRead pickDpc addr (dpcRegRead (dpcGated reverseBits) addr) s

/-- `DPC.RD.ROR`, R212. -/
def execDpcRdRor (addr : Addr) (s : State) : Host.Outcome State Fault Refusal :=
  cartRead pickDpc addr (dpcRegRead (dpcGated rotateRight) addr) s

/-- `DPC.RD.ROL`, R212. -/
def execDpcRdRol (addr : Addr) (s : State) : Host.Outcome State Fault Refusal :=
  cartRead pickDpc addr (dpcRegRead (dpcGated rotateLeft) addr) s

/-- `DPC.RD.FLAG`, R212. -/
def execDpcRdFlag (addr : Addr) (s : State) : Host.Outcome State Fault Refusal :=
  cartRead pickDpc addr (dpcRegRead dpcFlag addr) s

/-- `DPC.WR.TOP`, R213. -/
def execDpcWrTop (addr : Addr) (d : Byte) (s : State) : Host.Outcome State Fault Refusal :=
  cartWrite pickDpc addr d (dpcPtrWrite (Pointer.writeTop d) addr) s

/-- `DPC.WR.BOTTOM`, R214. -/
def execDpcWrBottom (addr : Addr) (d : Byte) (s : State) : Host.Outcome State Fault Refusal :=
  cartWrite pickDpc addr d (dpcPtrWrite (Pointer.writeBottom d) addr) s

/-- `DPC.WR.LOW`, R215. -/
def execDpcWrLow (addr : Addr) (d : Byte) (s : State) : Host.Outcome State Fault Refusal :=
  cartWrite pickDpc addr d (dpcPtrWrite (Pointer.writeLow d) addr) s

/-- `DPC.WR.HIGH`, R216. -/
def execDpcWrHigh (addr : Addr) (d : Byte) (s : State) : Host.Outcome State Fault Refusal :=
  cartWrite pickDpc addr d (dpcPtrWrite (Pointer.writeHigh d) addr) s

/-- `DPC.WR.RNGRESET`, R217. -/
def execDpcWrRngReset (addr : Addr) (d : Byte) (s : State) : Host.Outcome State Fault Refusal :=
  cartWrite pickDpc addr d dpcRngReset s

/-- `DPC.WR.NOTIMPL`, R218. -/
def execDpcWrNotImpl (addr : Addr) (d : Byte) (s : State) : Host.Outcome State Fault Refusal :=
  cartWrite pickDpc addr d (dpcNotImplemented addr) s

end Sys2Proof.Machine
end

