-- ==== Sys2Proof/Machine/CartE7.lean ====
section
/-! DEFINITION. The variant E7 (R190 to R197). -/

namespace Sys2Proof.Machine

/-! ## Effects -/

/-- The active record of `E7`. -/
def pickE7 : Mapper → Option E7
  | .e7 m => some m
  | _ => none

/-- `m.bank <- b` (R193). -/
def E7.select (b : Nat) (m : E7) : E7 := { m with bank := b }

/-- `m.ramBank <- b` (R193). -/
def E7.selectRam (b : Nat) (m : E7) : E7 := { m with ramBank := b }

/-- The fixed ROM: `image[7 * 2048 + a[10:0]]` (R197). -/
def e7FixedByte (addr : Addr) (_ : E7) (s : State) : Byte × State := romByte (7 * 2048 + a11 addr) s

/-- A hotspot read: the selection `f`, then the fixed ROM (R193). -/
def e7SelectRead (f : E7 → E7) (addr : Addr) (m : E7) (s : State) : Byte × State :=
  e7FixedByte addr (f m) (s.setMapper (.e7 (f m)))

/-- A hotspot write: the selection only (R193). -/
def e7SelectWrite (f : E7 → E7) (m : E7) (_ : Byte) (s : State) : State := s.setMapper (.e7 (f m))

/-- A read of the lower window (R194). -/
def e7LowLoad (addr : Addr) (m : E7) (s : State) : Byte × State :=
  if m.bank ≤ 6 then romByte (m.bank * 2048 + a11 addr) s
  else if a13 addr ≤ 0x13FF then drawByte s
  else (m.ram1k.read (a10 addr), s)

/-- A write to the lower window: stored in the 1 KB RAM while it is selected (R195). -/
def e7LowStore (addr : Addr) (d : Byte) (m : E7) (s : State) : State :=
  if m.bank = 8 then s.setMapper (.e7 { m with ram1k := m.ram1k.write (a10 addr) d }) else s

/-- The place of `ram256[m.ramBank][a[7:0]]`. -/
def E7.at256 (addr : Addr) (m : E7) : Nat := 256 * m.ramBank + a8 addr

/-- A read of the 256-byte write port (R196). -/
def e7WritePortRead (_ : E7) (s : State) : Byte × State := drawByte s

/-- `m.ram256[m.ramBank][a[7:0]] <- d` (R196). -/
def e7Store (addr : Addr) (m : E7) (d : Byte) (s : State) : State :=
  s.setMapper (.e7 { m with ram256 := m.ram256.write (m.at256 addr) d })

/-- `m.ram256[m.ramBank][a[7:0]]` (R196). -/
def e7Load (addr : Addr) (m : E7) (s : State) : Byte × State := (m.ram256.read (m.at256 addr), s)

/-! ## The access for any address (R190) -/

/-- Rule R193, which every access applies first. -/
def E7.touch (addr : Addr) (m : E7) : E7 :=
  let a := a13 addr
  if within 0x1FE0 0x1FE6 a then m.select (a - 0x1FE0)
  else if a = 0x1FE7 then m.select 8
  else if within 0x1FE8 0x1FEB a then m.selectRam (a - 0x1FE8)
  else m

/-- `E7.read(a)`. -/
def e7Read (addr : Addr) (m : E7) (s : State) : Byte × State :=
  if a13 addr ≤ 0x17FF then e7LowLoad addr m s
  else if a13 addr ≤ 0x18FF then e7WritePortRead m s
  else if a13 addr ≤ 0x19FF then e7Load addr m s
  else e7FixedByte addr (m.touch addr) (s.setMapper (.e7 (m.touch addr)))

/-- `E7.write(a, d)`. -/
def e7Write (addr : Addr) (d : Byte) (m : E7) (s : State) : State :=
  if a13 addr ≤ 0x17FF then e7LowStore addr d m s
  else if a13 addr ≤ 0x18FF then e7Store addr m d s
  else s.setMapper (.e7 (m.touch addr))

/-! ## Rows -/

/-- `E7.BANK0`, R193. -/
def execE7Bank0 (addr : Addr) (acc : Access) (s : State) : Host.Outcome State Fault Refusal :=
  cartAccess pickE7 addr acc (e7SelectRead (E7.select 0) addr) (e7SelectWrite (E7.select 0)) s

/-- `E7.BANK1`, R193. -/
def execE7Bank1 (addr : Addr) (acc : Access) (s : State) : Host.Outcome State Fault Refusal :=
  cartAccess pickE7 addr acc (e7SelectRead (E7.select 1) addr) (e7SelectWrite (E7.select 1)) s

/-- `E7.BANK2`, R193. -/
def execE7Bank2 (addr : Addr) (acc : Access) (s : State) : Host.Outcome State Fault Refusal :=
  cartAccess pickE7 addr acc (e7SelectRead (E7.select 2) addr) (e7SelectWrite (E7.select 2)) s

/-- `E7.BANK3`, R193. -/
def execE7Bank3 (addr : Addr) (acc : Access) (s : State) : Host.Outcome State Fault Refusal :=
  cartAccess pickE7 addr acc (e7SelectRead (E7.select 3) addr) (e7SelectWrite (E7.select 3)) s

/-- `E7.BANK4`, R193. -/
def execE7Bank4 (addr : Addr) (acc : Access) (s : State) : Host.Outcome State Fault Refusal :=
  cartAccess pickE7 addr acc (e7SelectRead (E7.select 4) addr) (e7SelectWrite (E7.select 4)) s

/-- `E7.BANK5`, R193. -/
def execE7Bank5 (addr : Addr) (acc : Access) (s : State) : Host.Outcome State Fault Refusal :=
  cartAccess pickE7 addr acc (e7SelectRead (E7.select 5) addr) (e7SelectWrite (E7.select 5)) s

/-- `E7.BANK6`, R193. -/
def execE7Bank6 (addr : Addr) (acc : Access) (s : State) : Host.Outcome State Fault Refusal :=
  cartAccess pickE7 addr acc (e7SelectRead (E7.select 6) addr) (e7SelectWrite (E7.select 6)) s

/-- `E7.RAMON`, R193. -/
def execE7Ramon (addr : Addr) (acc : Access) (s : State) : Host.Outcome State Fault Refusal :=
  cartAccess pickE7 addr acc (e7SelectRead (E7.select 8) addr) (e7SelectWrite (E7.select 8)) s

/-- `E7.RBANK0`, R193. -/
def execE7Rbank0 (addr : Addr) (acc : Access) (s : State) : Host.Outcome State Fault Refusal :=
  cartAccess pickE7 addr acc (e7SelectRead (E7.selectRam 0) addr) (e7SelectWrite (E7.selectRam 0)) s

/-- `E7.RBANK1`, R193. -/
def execE7Rbank1 (addr : Addr) (acc : Access) (s : State) : Host.Outcome State Fault Refusal :=
  cartAccess pickE7 addr acc (e7SelectRead (E7.selectRam 1) addr) (e7SelectWrite (E7.selectRam 1)) s

/-- `E7.RBANK2`, R193. -/
def execE7Rbank2 (addr : Addr) (acc : Access) (s : State) : Host.Outcome State Fault Refusal :=
  cartAccess pickE7 addr acc (e7SelectRead (E7.selectRam 2) addr) (e7SelectWrite (E7.selectRam 2)) s

/-- `E7.RBANK3`, R193. -/
def execE7Rbank3 (addr : Addr) (acc : Access) (s : State) : Host.Outcome State Fault Refusal :=
  cartAccess pickE7 addr acc (e7SelectRead (E7.selectRam 3) addr) (e7SelectWrite (E7.selectRam 3)) s

/-- `E7.LOW.RD`, R194. -/
def execE7LowRd (addr : Addr) (s : State) : Host.Outcome State Fault Refusal :=
  cartRead pickE7 addr (e7LowLoad addr) s

/-- `E7.LOW.WR`, R195. -/
def execE7LowWr (addr : Addr) (d : Byte) (s : State) : Host.Outcome State Fault Refusal :=
  cartWrite pickE7 addr d (e7LowStore addr d) s

/-- `E7.R256W`, R196. -/
def execE7R256w (addr : Addr) (acc : Access) (s : State) : Host.Outcome State Fault Refusal :=
  cartAccess pickE7 addr acc e7WritePortRead (e7Store addr) s

/-- `E7.R256R`, R196. -/
def execE7R256r (addr : Addr) (acc : Access) (s : State) : Host.Outcome State Fault Refusal :=
  cartAccess pickE7 addr acc (e7Load addr) storeNothing s

/-- `E7.FIXED`, R197. -/
def execE7Fixed (addr : Addr) (acc : Access) (s : State) : Host.Outcome State Fault Refusal :=
  cartAccess pickE7 addr acc (e7FixedByte addr) storeNothing s

end Sys2Proof.Machine
end

