-- ==== Sys2Proof/Machine/CartSimple.lean ====
section
/-! DEFINITION. The simple variants Unknown, FA, F0, E0, 3F, FE and C0 (R149, R150, R160 to R189): the effects, the
access as the rules give it for any address, and the meaning of each row. -/

namespace Sys2Proof.Machine

/-! ## Unknown (R149, R150) -/

/-- The active record of `Unknown`. -/
def pickUnknown : Mapper → Option Unit
  | .unknown => some ()
  | _ => none

/-- `image[emod(a[11:0], n)]` (R149). -/
def unknownRead (addr : Addr) (_ : Unit) (s : State) : Byte × State := romByte (a12 addr % s.image.size) s

/-- `UNK.ROM`, R149. -/
def execUnkRom (addr : Addr) (s : State) : Host.Outcome State Fault Refusal :=
  cartRead pickUnknown addr (unknownRead addr) s

/-- `UNK.WR`, R150. -/
def execUnkWr (addr : Addr) (d : Byte) (s : State) : Host.Outcome State Fault Refusal :=
  cartWrite pickUnknown addr d keepState s

/-! ## FA (R160 to R163) -/

/-- The active record of `FA`. -/
def pickFa : Mapper → Option Fa
  | .fa m => some m
  | _ => none

/-- `m.bank <- b` (R160). -/
def Fa.select (b : Nat) (m : Fa) : Fa := { m with bank := b }

/-- `image[m.bank * 4096 + a[11:0]]` (R163). -/
def faRomByte (addr : Addr) (m : Fa) (s : State) : Byte × State := romByte (m.bank * 4096 + a12 addr) s

/-- A hotspot read: the switch first (R160). -/
def faBankRead (b : Nat) (addr : Addr) (m : Fa) (s : State) : Byte × State :=
  faRomByte addr (m.select b) (s.setMapper (.fa (m.select b)))

/-- A hotspot write: the switch only (R160). -/
def faBankWrite (b : Nat) (m : Fa) (_ : Byte) (s : State) : State := s.setMapper (.fa (m.select b))

/-- A read of the write port (R161). -/
def faWritePortRead (_ : Fa) (s : State) : Byte × State := drawByte s

/-- `m.ram[a[7:0]] <- d` (R161). -/
def faStore (addr : Addr) (m : Fa) (d : Byte) (s : State) : State :=
  s.setMapper (.fa { m with ram := m.ram.write (a8 addr) d })

/-- `m.ram[a[7:0]]` (R162). -/
def faLoad (addr : Addr) (m : Fa) (s : State) : Byte × State := (m.ram.read (a8 addr), s)

/-- Rule R160, which every access applies first. -/
def Fa.touch (addr : Addr) (m : Fa) : Fa := if within 0x1FF8 0x1FFA (a13 addr) then m.select (a13 addr - 0x1FF8) else m

/-- `FA.read(a)` for any address. -/
def faRead (addr : Addr) (m : Fa) (s : State) : Byte × State :=
  if a13 addr ≤ 0x10FF then faWritePortRead m s
  else if a13 addr ≤ 0x11FF then faLoad addr m s
  else faRomByte addr (m.touch addr) (s.setMapper (.fa (m.touch addr)))

/-- `FA.write(a, d)` for any address. -/
def faWrite (addr : Addr) (d : Byte) (m : Fa) (s : State) : State :=
  if a13 addr ≤ 0x10FF then faStore addr m d s else s.setMapper (.fa (m.touch addr))

/-- `FA.BANK0`, R160. -/
def execFaBank0 (addr : Addr) (acc : Access) (s : State) : Host.Outcome State Fault Refusal :=
  cartAccess pickFa addr acc (faBankRead 0 addr) (faBankWrite 0) s

/-- `FA.BANK1`, R160. -/
def execFaBank1 (addr : Addr) (acc : Access) (s : State) : Host.Outcome State Fault Refusal :=
  cartAccess pickFa addr acc (faBankRead 1 addr) (faBankWrite 1) s

/-- `FA.BANK2`, R160. -/
def execFaBank2 (addr : Addr) (acc : Access) (s : State) : Host.Outcome State Fault Refusal :=
  cartAccess pickFa addr acc (faBankRead 2 addr) (faBankWrite 2) s

/-- `FA.RAMW`, R161. -/
def execFaRamw (addr : Addr) (acc : Access) (s : State) : Host.Outcome State Fault Refusal :=
  cartAccess pickFa addr acc faWritePortRead (faStore addr) s

/-- `FA.RAMR`, R162. -/
def execFaRamr (addr : Addr) (acc : Access) (s : State) : Host.Outcome State Fault Refusal :=
  cartAccess pickFa addr acc (faLoad addr) storeNothing s

/-- `FA.ROM`, R163. -/
def execFaRom (addr : Addr) (acc : Access) (s : State) : Host.Outcome State Fault Refusal :=
  cartAccess pickFa addr acc (faRomByte addr) storeNothing s

/-! ## F0 (R165, R166) -/

/-- The bank of `F0`. -/
def pickF0 : Mapper → Option Nat
  | .f0 bank => some bank
  | _ => none

/-- `emod(m.bank + 1, 16)` (R165). -/
def nextF0 (bank : Nat) : Nat := (bank + 1) % 16

/-- `image[m.bank * 4096 + a[11:0]]` (R166). -/
def f0RomByte (addr : Addr) (bank : Nat) (s : State) : Byte × State := romByte (bank * 4096 + a12 addr) s

/-- A read of the trigger: the increment first (R165). -/
def f0NextRead (addr : Addr) (bank : Nat) (s : State) : Byte × State :=
  f0RomByte addr (nextF0 bank) (s.setMapper (.f0 (nextF0 bank)))

/-- A write to the trigger: the increment only (R165). -/
def f0NextWrite (bank : Nat) (_ : Byte) (s : State) : State := s.setMapper (.f0 (nextF0 bank))

/-- `F0.read(a)` for any address. -/
def f0Read (addr : Addr) (bank : Nat) (s : State) : Byte × State :=
  if a13 addr = 0x1FF0 then f0NextRead addr bank s else f0RomByte addr bank s

/-- `F0.write(a, d)` for any address. -/
def f0Write (addr : Addr) (d : Byte) (bank : Nat) (s : State) : State :=
  if a13 addr = 0x1FF0 then f0NextWrite bank d s else s

/-- `F0.NEXT`, R165. -/
def execF0Next (addr : Addr) (acc : Access) (s : State) : Host.Outcome State Fault Refusal :=
  cartAccess pickF0 addr acc (f0NextRead addr) f0NextWrite s

/-- `F0.ROM`, R166. -/
def execF0Rom (addr : Addr) (acc : Access) (s : State) : Host.Outcome State Fault Refusal :=
  cartAccess pickF0 addr acc (f0RomByte addr) storeNothing s

/-! ## E0 (R170, R171) -/

/-- The active record of `E0`. -/
def pickE0 : Mapper → Option E0
  | .e0 m => some m
  | _ => none

/-- `m.slice[0] <- b` (R170). -/
def E0.select0 (b : Nat) (m : E0) : E0 := { m with slice0 := b }

/-- `m.slice[1] <- b` (R170). -/
def E0.select1 (b : Nat) (m : E0) : E0 := { m with slice1 := b }

/-- `m.slice[2] <- b` (R170). -/
def E0.select2 (b : Nat) (m : E0) : E0 := { m with slice2 := b }

/-- The bank shown at an address, by `s = a[11:10]`; the last slice is fixed at bank 7 (R171). -/
def E0.bankAt (addr : Addr) (m : E0) : Nat :=
  match a12 addr / 0x400 with
  | 0 => m.slice0
  | 1 => m.slice1
  | 2 => m.slice2
  | _ => 7

/-- `image[m.slice[s] * 1024 + o]` (R171). -/
def e0RomByte (addr : Addr) (m : E0) (s : State) : Byte × State := romByte (m.bankAt addr * 1024 + a10 addr) s

/-- A read of the control window: the selection `f` first (R170). -/
def e0SelectRead (f : E0 → E0) (addr : Addr) (m : E0) (s : State) : Byte × State :=
  e0RomByte addr (f m) (s.setMapper (.e0 (f m)))

/-- A write to the control window: the selection only (R170). -/
def e0SelectWrite (f : E0 → E0) (m : E0) (_ : Byte) (s : State) : State := s.setMapper (.e0 (f m))

/-- Rule R170, which every access applies first: `m.slice[k / 8] <- emod(k, 8)` with `k = a - 0x1FE0`. -/
def E0.touch (addr : Addr) (m : E0) : E0 :=
  if within 0x1FE0 0x1FF7 (a13 addr) then
    match (a13 addr - 0x1FE0) / 8 with
    | 0 => m.select0 ((a13 addr - 0x1FE0) % 8)
    | 1 => m.select1 ((a13 addr - 0x1FE0) % 8)
    | _ => m.select2 ((a13 addr - 0x1FE0) % 8)
  else m

/-- `E0.read(a)` for any address. -/
def e0Read (addr : Addr) (m : E0) (s : State) : Byte × State :=
  e0RomByte addr (m.touch addr) (s.setMapper (.e0 (m.touch addr)))

/-- `E0.write(a, d)` for any address. -/
def e0Write (addr : Addr) (_ : Byte) (m : E0) (s : State) : State := s.setMapper (.e0 (m.touch addr))

/-- `E0.S0`, R170. -/
def execE0S0 (addr : Addr) (acc : Access) (s : State) : Host.Outcome State Fault Refusal :=
  cartAccess pickE0 addr acc (e0SelectRead (E0.select0 (a3 addr)) addr) (e0SelectWrite (E0.select0 (a3 addr))) s

/-- `E0.S1`, R170. -/
def execE0S1 (addr : Addr) (acc : Access) (s : State) : Host.Outcome State Fault Refusal :=
  cartAccess pickE0 addr acc (e0SelectRead (E0.select1 (a3 addr)) addr) (e0SelectWrite (E0.select1 (a3 addr))) s

/-- `E0.S2`, R170. -/
def execE0S2 (addr : Addr) (acc : Access) (s : State) : Host.Outcome State Fault Refusal :=
  cartAccess pickE0 addr acc (e0SelectRead (E0.select2 (a3 addr)) addr) (e0SelectWrite (E0.select2 (a3 addr))) s

/-- `E0.ROM`, R171. -/
def execE0Rom (addr : Addr) (acc : Access) (s : State) : Host.Outcome State Fault Refusal :=
  cartAccess pickE0 addr acc (e0RomByte addr) storeNothing s

/-! ## 3F (R175 to R178) -/

/-- The bank of `3F`. -/
def pick3F : Mapper → Option Nat
  | .m3f bank => some bank
  | _ => none

/-- `n - 2048 + a[10:0]` (R178); below 0, for an image of less than one bank, no byte of the image (log entries 6, 17). -/
def lastIndex3F (addr : Addr) (s : State) : Nat :=
  if s.image.size + a11 addr < 2048 then s.image.size else s.image.size + a11 addr - 2048

/-- The lower half shows the selected bank, the upper half the last 2048 bytes (R178). -/
def m3fRead (addr : Addr) (bank : Nat) (s : State) : Byte × State :=
  if addr.getLsbD 11 then romByte (lastIndex3F addr s) s else romByte (bank * 2048 + a11 addr) s

/-- `3F.ROM`, R178. -/
def execM3fRom (addr : Addr) (acc : Access) (s : State) : Host.Outcome State Fault Refusal :=
  cartAccess pick3F addr acc (m3fRead addr) storeNothing s

/-! ## FE (R180 to R184) -/

/-- The bank of `FE`. -/
def pickFe : Mapper → Option Nat
  | .fe bank => some bank
  | _ => none

/-- `image[m.bank * 4096 + a[11:0]]` (R183). -/
def feRead (addr : Addr) (bank : Nat) (s : State) : Byte × State := romByte (bank * 4096 + a12 addr) s

/-- The bank after `FE.TICK`, from the last read address (R184). -/
def feNext (r : Addr) (bank : Nat) : Nat :=
  if r.getLsbD 12 then if r.getLsbD 13 then 0 else 1 else bank

/-- `FE.ROM`, R183. -/
def execFeRom (addr : Addr) (acc : Access) (s : State) : Host.Outcome State Fault Refusal :=
  cartAccess pickFe addr acc (feRead addr) storeNothing s

/-! ## C0 (R186 to R189) -/

/-- The RAM of `C0`. -/
def pickC0 : Mapper → Option Mem
  | .c0 ram => some ram
  | _ => none

/-- `m.ram[a[9:0]]` (R187). -/
def c0Load (addr : Addr) (ram : Mem) (s : State) : Byte × State := (ram.read (a10 addr), s)

/-- A read of the write-only zone (R188). -/
def c0WriteZoneRead (_ : Mem) (s : State) : Byte × State := drawByte s

/-- `m.ram[a[9:0]] <- d` (R188). -/
def c0Store (addr : Addr) (ram : Mem) (d : Byte) (s : State) : State := s.setMapper (.c0 (ram.write (a10 addr) d))

/-- `image[emod(a[11:0], n)]` (R189). -/
def c0RomByte (addr : Addr) (_ : Mem) (s : State) : Byte × State := romByte (a12 addr % s.image.size) s

/-- `C0.read(a)` for any address. -/
def c0Read (addr : Addr) (ram : Mem) (s : State) : Byte × State :=
  if a13 addr ≤ 0x13FF then c0Load addr ram s
  else if a13 addr ≤ 0x17FF then c0WriteZoneRead ram s
  else c0RomByte addr ram s

/-- `C0.write(a, d)` for any address. -/
def c0Write (addr : Addr) (d : Byte) (ram : Mem) (s : State) : State :=
  if within 0x1400 0x17FF (a13 addr) then c0Store addr ram d s else s

/-- `C0.RAMR`, R187. -/
def execC0Ramr (addr : Addr) (acc : Access) (s : State) : Host.Outcome State Fault Refusal :=
  cartAccess pickC0 addr acc (c0Load addr) storeNothing s

/-- `C0.RAMW`, R188. -/
def execC0Ramw (addr : Addr) (acc : Access) (s : State) : Host.Outcome State Fault Refusal :=
  cartAccess pickC0 addr acc c0WriteZoneRead (c0Store addr) s

/-- `C0.ROM`, R189. -/
def execC0Rom (addr : Addr) (acc : Access) (s : State) : Host.Outcome State Fault Refusal :=
  cartAccess pickC0 addr acc (c0RomByte addr) storeNothing s

end Sys2Proof.Machine
end

