-- ==== Sys2Proof/Machine/CartStd.lean ====
section
/-! DEFINITION. The standard family F8, F6, F4 with the superchip overlay (R151 to R156): the effects, the access as the
rules give it for any address, and the meaning of each row. -/

namespace Sys2Proof.Machine

/-! ## Effects -/

/-- The active record, if it is the kind `k` of the standard family. -/
def pickStd (k : StdKind) : Mapper → Option Std
  | .std m => if m.kind = k then some m else none
  | _ => none

/-- `m.bank <- b` (R152). -/
def Std.select (b : Nat) (m : Std) : Std := { m with bank := b }

/-- `image[m.bank * 4096 + a[11:0]]` (R153). -/
def stdRom (addr : Addr) (m : Std) (s : State) : Byte × State := romByte (m.bank * 4096 + a12 addr) s

/-- A hotspot read: the switch first, then the byte of the new bank (R152). -/
def stdBankRead (b : Nat) (addr : Addr) (m : Std) (s : State) : Byte × State :=
  stdRom addr (m.select b) (s.setMapper (.std (m.select b)))

/-- A hotspot write: the switch only (R152). -/
def stdBankWrite (b : Nat) (m : Std) (_ : Byte) (s : State) : State := s.setMapper (.std (m.select b))

/-- A write to 0x1000..0x107F: lazy activation of the overlay, and the byte (R154). -/
def stdScWrite (addr : Addr) (d : Byte) (m : Std) (s : State) : State :=
  s.setMapper (.std { m with superchip := true, scRam := m.scRam.write (a7 addr) d })

/-- A read of 0x1080..0x10FF (R155). -/
def stdScRead (addr : Addr) (m : Std) (s : State) : Byte × State :=
  if m.superchip then (m.scRam.read (a7 addr), s) else stdRom addr m s

/-- A read outside hotspots and read port: ROM, or a draw in the active write-only window (R153, R154). -/
def stdRomRead (addr : Addr) (m : Std) (s : State) : Byte × State :=
  if m.superchip && decide (a13 addr ≤ 0x107F) then drawByte s else stdRom addr m s

/-! ## The access for any address (R151) -/

/-- Rule R152, which every access applies first. -/
def Std.touch (addr : Addr) (m : Std) : Std :=
  if m.kind.hotspot (a13 addr) then m.select (a13 addr - m.kind.hot) else m

/-- `Std.read(a)`. -/
def stdRead (addr : Addr) (m : Std) (s : State) : Byte × State :=
  if within 0x1080 0x10FF (a13 addr) then stdScRead addr m s
  else stdRomRead addr (m.touch addr) (s.setMapper (.std (m.touch addr)))

/-- `Std.write(a, d)`. -/
def stdWrite (addr : Addr) (d : Byte) (m : Std) (s : State) : State :=
  if a13 addr ≤ 0x107F then stdScWrite addr d m s else s.setMapper (.std (m.touch addr))

/-! ## Rows -/

/-- `F8.BANK0`, R152. -/
def execF8Bank0 (addr : Addr) (acc : Access) (s : State) : Host.Outcome State Fault Refusal :=
  cartAccess (pickStd .f8) addr acc (stdBankRead 0 addr) (stdBankWrite 0) s

/-- `F8.BANK1`, R152. -/
def execF8Bank1 (addr : Addr) (acc : Access) (s : State) : Host.Outcome State Fault Refusal :=
  cartAccess (pickStd .f8) addr acc (stdBankRead 1 addr) (stdBankWrite 1) s

/-- `STD.SCW`, R154. -/
def execF8Scw (addr : Addr) (d : Byte) (s : State) : Host.Outcome State Fault Refusal :=
  cartWrite (pickStd .f8) addr d (stdScWrite addr d) s

/-- `STD.SCR`, R155. -/
def execF8Scr (addr : Addr) (s : State) : Host.Outcome State Fault Refusal :=
  cartRead (pickStd .f8) addr (stdScRead addr) s

/-- `STD.ROM`, R153. -/
def execF8Rom (addr : Addr) (s : State) : Host.Outcome State Fault Refusal :=
  cartRead (pickStd .f8) addr (stdRomRead addr) s

/-- `STD.WR`, R156. -/
def execF8Wr (addr : Addr) (d : Byte) (s : State) : Host.Outcome State Fault Refusal :=
  cartWrite (pickStd .f8) addr d keepState s

/-- `F6.BANK0`, R152. -/
def execF6Bank0 (addr : Addr) (acc : Access) (s : State) : Host.Outcome State Fault Refusal :=
  cartAccess (pickStd .f6) addr acc (stdBankRead 0 addr) (stdBankWrite 0) s

/-- `F6.BANK1`, R152. -/
def execF6Bank1 (addr : Addr) (acc : Access) (s : State) : Host.Outcome State Fault Refusal :=
  cartAccess (pickStd .f6) addr acc (stdBankRead 1 addr) (stdBankWrite 1) s

/-- `F6.BANK2`, R152. -/
def execF6Bank2 (addr : Addr) (acc : Access) (s : State) : Host.Outcome State Fault Refusal :=
  cartAccess (pickStd .f6) addr acc (stdBankRead 2 addr) (stdBankWrite 2) s

/-- `F6.BANK3`, R152. -/
def execF6Bank3 (addr : Addr) (acc : Access) (s : State) : Host.Outcome State Fault Refusal :=
  cartAccess (pickStd .f6) addr acc (stdBankRead 3 addr) (stdBankWrite 3) s

/-- `STD.SCW`, R154. -/
def execF6Scw (addr : Addr) (d : Byte) (s : State) : Host.Outcome State Fault Refusal :=
  cartWrite (pickStd .f6) addr d (stdScWrite addr d) s

/-- `STD.SCR`, R155. -/
def execF6Scr (addr : Addr) (s : State) : Host.Outcome State Fault Refusal :=
  cartRead (pickStd .f6) addr (stdScRead addr) s

/-- `STD.ROM`, R153. -/
def execF6Rom (addr : Addr) (s : State) : Host.Outcome State Fault Refusal :=
  cartRead (pickStd .f6) addr (stdRomRead addr) s

/-- `STD.WR`, R156. -/
def execF6Wr (addr : Addr) (d : Byte) (s : State) : Host.Outcome State Fault Refusal :=
  cartWrite (pickStd .f6) addr d keepState s

/-- `F4.BANK0`, R152. -/
def execF4Bank0 (addr : Addr) (acc : Access) (s : State) : Host.Outcome State Fault Refusal :=
  cartAccess (pickStd .f4) addr acc (stdBankRead 0 addr) (stdBankWrite 0) s

/-- `F4.BANK1`, R152. -/
def execF4Bank1 (addr : Addr) (acc : Access) (s : State) : Host.Outcome State Fault Refusal :=
  cartAccess (pickStd .f4) addr acc (stdBankRead 1 addr) (stdBankWrite 1) s

/-- `F4.BANK2`, R152. -/
def execF4Bank2 (addr : Addr) (acc : Access) (s : State) : Host.Outcome State Fault Refusal :=
  cartAccess (pickStd .f4) addr acc (stdBankRead 2 addr) (stdBankWrite 2) s

/-- `F4.BANK3`, R152. -/
def execF4Bank3 (addr : Addr) (acc : Access) (s : State) : Host.Outcome State Fault Refusal :=
  cartAccess (pickStd .f4) addr acc (stdBankRead 3 addr) (stdBankWrite 3) s

/-- `F4.BANK4`, R152. -/
def execF4Bank4 (addr : Addr) (acc : Access) (s : State) : Host.Outcome State Fault Refusal :=
  cartAccess (pickStd .f4) addr acc (stdBankRead 4 addr) (stdBankWrite 4) s

/-- `F4.BANK5`, R152. -/
def execF4Bank5 (addr : Addr) (acc : Access) (s : State) : Host.Outcome State Fault Refusal :=
  cartAccess (pickStd .f4) addr acc (stdBankRead 5 addr) (stdBankWrite 5) s

/-- `F4.BANK6`, R152. -/
def execF4Bank6 (addr : Addr) (acc : Access) (s : State) : Host.Outcome State Fault Refusal :=
  cartAccess (pickStd .f4) addr acc (stdBankRead 6 addr) (stdBankWrite 6) s

/-- `F4.BANK7`, R152. -/
def execF4Bank7 (addr : Addr) (acc : Access) (s : State) : Host.Outcome State Fault Refusal :=
  cartAccess (pickStd .f4) addr acc (stdBankRead 7 addr) (stdBankWrite 7) s

/-- `STD.SCW`, R154. -/
def execF4Scw (addr : Addr) (d : Byte) (s : State) : Host.Outcome State Fault Refusal :=
  cartWrite (pickStd .f4) addr d (stdScWrite addr d) s

/-- `STD.SCR`, R155. -/
def execF4Scr (addr : Addr) (s : State) : Host.Outcome State Fault Refusal :=
  cartRead (pickStd .f4) addr (stdScRead addr) s

/-- `STD.ROM`, R153. -/
def execF4Rom (addr : Addr) (s : State) : Host.Outcome State Fault Refusal :=
  cartRead (pickStd .f4) addr (stdRomRead addr) s

/-- `STD.WR`, R156. -/
def execF4Wr (addr : Addr) (d : Byte) (s : State) : Host.Outcome State Fault Refusal :=
  cartWrite (pickStd .f4) addr d keepState s

end Sys2Proof.Machine
end

