-- ==== Sys2Proof/Machine/Flags.lean ====
section
/-! DEFINITION. The flag computations: collision latches (R333), the timer's two underflow flags (R377), the input
latches (R445), the paddles' "charged" flags (R446), and the input lines computed from the input record (R298, R302,
R381, R383, R386, R387). -/

namespace Sys2Proof.Machine

/-! ## Collisions -/

/-- `accumulateCollisions(p0, p1, m0, m1, bl, pf)`: no latch is ever written false here (R333). -/
def Collisions.accumulate (c : Collisions) (p0 p1 m0 m1 bl pf : Bool) : Collisions where
  m0p1 := c.m0p1 || (m0 && p1)
  m0p0 := c.m0p0 || (m0 && p0)
  m1p0 := c.m1p0 || (m1 && p0)
  m1p1 := c.m1p1 || (m1 && p1)
  p0pf := c.p0pf || (p0 && pf)
  p0bl := c.p0bl || (p0 && bl)
  p1pf := c.p1pf || (p1 && pf)
  p1bl := c.p1bl || (p1 && bl)
  m0pf := c.m0pf || (m0 && pf)
  m0bl := c.m0bl || (m0 && bl)
  m1pf := c.m1pf || (m1 && pf)
  m1bl := c.m1bl || (m1 && bl)
  blpf := c.blpf || (bl && pf)
  p0p1 := c.p0p1 || (p0 && p1)
  m0m1 := c.m0m1 || (m0 && m1)

/-! ## Timer -/

/-- A divider in processor cycles (R7: `TIMER_DIVIDERS`). -/
def Divider.cycles : Divider → Nat
  | .d1 => 1
  | .d8 => 8
  | .d64 => 64
  | .d1024 => 1024

/-- `timerDecrement`: underflow sets both sticky flags (R377). -/
def Timer.decrement (t : Timer) : Timer :=
  if t.intim = 0 then { t with intim := 0xFF, ufIntim := true, ufStatus := true } else { t with intim := t.intim - 1 }

/-- `reloadSub` (R376). -/
def Timer.reloadSub (t : Timer) : Nat := if t.ufIntim then 1 else t.interval.cycles

/-- `timer.sub <- reloadSub`. -/
def Timer.reload (t : Timer) : Timer := { t with sub := t.reloadSub }

/-! ## Input lines -/

/-- The two controller ports. -/
inductive Port where
  | port0 | port1
  deriving DecidableEq, Repr

/-- `controllerMode[p]` (R7). -/
def State.mode (s : State) : Port → ControllerMode
  | .port0 => s.mode0
  | .port1 => s.mode1

/-- `input.joy[p]` (R380). -/
def Input.joy (i : Input) : Port → Joystick
  | .port0 => i.joy0
  | .port1 => i.joy1

/-- `input.keypad[p]` (R380). -/
def Input.keypad (i : Input) : Port → Keypad
  | .port0 => i.keypad0
  | .port1 => i.keypad1

/-- `io.inptLatch[p]` (R41). -/
def Io.latch (io : Io) : Port → Bool
  | .port0 => io.inptLatch0
  | .port1 => io.inptLatch1

/-- The three columns of a keypad (R380). -/
inductive Column where
  | c0 | c1 | c2
  deriving DecidableEq, Repr

/-- A key of a row, by its column. -/
def KeyRow.key (r : KeyRow) : Column → Bool
  | .c0 => r.c0
  | .c1 => r.c1
  | .c2 => r.c2

/-- The SWCHA bit that row `r` of a port is wired to (R386). -/
def rowBit (p : Port) (r : Nat) : Nat :=
  match p with
  | .port0 => 4 + r
  | .port1 => r

/-- Is row `r` of a port selected: its SWCHA bit an output driven low (R386)? -/
def Io.rowSelected (io : Io) (p : Port) (r : Nat) : Bool := bit io.swacnt (rowBit p r) && !bit io.swchaOut (rowBit p r)

/-- Row `r` of a keypad: keys `3 * r` to `3 * r + 2` (R380). -/
def Keypad.row (k : Keypad) : Nat → KeyRow
  | 0 => k.r0
  | 1 => k.r1
  | 2 => k.r2
  | _ => k.r3

/-- `keypadColumn(p, col)`: false when a selected row has the key of that column pressed (R386). -/
def keypadColumn (io : Io) (input : Input) (p : Port) (col : Column) : Bool :=
  !(List.any [0, 1, 2, 3] fun r => io.rowSelected p r && ((input.keypad p).row r).key col)

/-- `trigLine(j)` (R302). -/
def trigLine (s : State) (p : Port) : Bool :=
  match s.mode p with
  | .joystick => if s.tia.vblankLatch then s.io.latch p else !(s.input.joy p).button
  | .keypad => keypadColumn s.io s.input p .c2
  | .paddle => true

/-- The four paddle lines `INPT0` to `INPT3`. -/
inductive Pot where
  | pot0 | pot1 | pot2 | pot3
  deriving DecidableEq, Repr

/-- The port `k / 2` a paddle line belongs to (R298). -/
def Pot.port : Pot → Port
  | .pot0 => .port0
  | .pot1 => .port0
  | .pot2 => .port1
  | .pot3 => .port1

/-- The keypad column `k mod 2` read on a paddle line (R298). -/
def Pot.column : Pot → Column
  | .pot0 => .c0
  | .pot1 => .c1
  | .pot2 => .c0
  | .pot3 => .c1

/-- `io.paddleCharged[k]` (R41). -/
def Io.charged (io : Io) : Pot → Bool
  | .pot0 => io.paddleCharged0
  | .pot1 => io.paddleCharged1
  | .pot2 => io.paddleCharged2
  | .pot3 => io.paddleCharged3

/-- `input.paddle[k]` (R380). -/
def Input.paddle (i : Input) : Pot → Paddle
  | .pot0 => i.paddle0
  | .pot1 => i.paddle1
  | .pot2 => i.paddle2
  | .pot3 => i.paddle3

/-- `potLine(k)` (R298): in joystick mode nothing drives the line. -/
def potLine (k : Pot) (s : State) : Bool × State :=
  match s.mode k.port with
  | .paddle => (s.io.charged k && !s.tia.vblankDump, s)
  | .keypad => (keypadColumn s.io s.input k.port k.column, s)
  | .joystick => drawBit s

/-- The first paddle of a port, `paddle[2j]`. -/
def Input.paddleA (i : Input) : Port → Paddle
  | .port0 => i.paddle0
  | .port1 => i.paddle2

/-- The second paddle of a port, `paddle[2j+1]`. -/
def Input.paddleB (i : Input) : Port → Paddle
  | .port0 => i.paddle1
  | .port1 => i.paddle3

/-- A pin of a port's nibble, bit 3 of the nibble: right, or the first paddle's button (R381). -/
def pin3 (s : State) (p : Port) : Bool :=
  match s.mode p with
  | .joystick => !(s.input.joy p).right
  | .paddle => !(s.input.paddleA p).button
  | .keypad => true

/-- Bit 2 of a port's nibble: left, or the second paddle's button (R381). -/
def pin2 (s : State) (p : Port) : Bool :=
  match s.mode p with
  | .joystick => !(s.input.joy p).left
  | .paddle => !(s.input.paddleB p).button
  | .keypad => true

/-- Bit 1 of a port's nibble: down (R381). -/
def pin1 (s : State) (p : Port) : Bool :=
  match s.mode p with
  | .joystick => !(s.input.joy p).down
  | .paddle => true
  | .keypad => true

/-- Bit 0 of a port's nibble: up (R381). -/
def pin0 (s : State) (p : Port) : Bool :=
  match s.mode p with
  | .joystick => !(s.input.joy p).up
  | .paddle => true
  | .keypad => true

/-- `pinsA`: port 0 owns bits 7:4, port 1 bits 3:0 (R381). -/
def pinsA (s : State) : Byte :=
  byteOfBits (pin3 s .port0) (pin2 s .port0) (pin1 s .port0) (pin0 s .port0) (pin3 s .port1) (pin2 s .port1)
    (pin1 s .port1) (pin0 s .port1)

/-- `pinsB` (R383). -/
def pinsB (i : Input) : Byte := byteOfBits i.diff1 i.diff0 true true true true (!i.select) (!i.reset)

/-- A port read: `(out and ddr) or (pins and not ddr)` (R361, R365, R540). -/
def portRead (out ddr pins : Byte) : Byte := (out &&& ddr) ||| (pins &&& ~~~ddr)

/-! ## Sampling (R445, R446) -/

/-- `io.inptLatch[j]` after a sample: it sticks low once the button is seen pressed (R445). -/
def sampledLatch (s : State) (p : Port) : Bool :=
  if s.tia.vblankLatch && decide (s.mode p = .joystick) && (s.input.joy p).button then false else s.io.latch p

/-- `paddleThreshold(pos)` in scanlines, rounding down (R387). -/
def paddleThreshold (pos : Int) : Int := (pos + 135) * Config.paddleLinesMax / 270

/-- Scanlines elapsed since the dump was released (R446). -/
def elapsedLines (s : State) : Nat := (s.cycles - s.io.paddleStart) / Config.cyclesPerLine

/-- `io.paddleCharged[k]` after `updatePaddles` (R446). -/
def updatedCharge (s : State) (k : Pot) : Bool :=
  if s.mode k.port = .paddle then
    if s.tia.vblankDump then false
    else if paddleThreshold (s.input.paddle k).pos ≤ (elapsedLines s : Int) then true
    else s.io.charged k
  else s.io.charged k

/-- `INPUT.SAMPLE` (R445, R446). -/
def sampleInput (s : State) : State :=
  s.setIo { s.io with
    inptLatch0 := sampledLatch s .port0
    inptLatch1 := sampledLatch s .port1
    paddleCharged0 := updatedCharge s .pot0
    paddleCharged1 := updatedCharge s .pot1
    paddleCharged2 := updatedCharge s .pot2
    paddleCharged3 := updatedCharge s .pot3 }

end Sys2Proof.Machine
end

