-- ==== Sys2Proof/Machine/TiaReads.lean ====
section
/-! DEFINITION. The video chip's read registers (R288 to R304): bits 7 and 6 come from the register's rule, bits 5:0 are
`draw_6()`. -/

namespace Sys2Proof.Machine

/-! ## The returned byte -/

/-- A byte from bit 7, bit 6 and six undriven bits (R288). -/
def driven (b7 b6 : Bool) (low : BitVec 6) : Byte :=
  BitVec.ofNat 8 (bitNat b7 * 128 + bitNat b6 * 64 + low.toNat)

/-- A read that drives bits 7 and 6 (R288). -/
def twoBits (b7 b6 : Bool) (s : State) : Byte × State :=
  let u := drawSix s
  (driven b7 b6 u.1, u.2)

/-- A read that drives bit 7; bit 6 is `draw_1()` (R296, R298). -/
def topBit (b7 : Bool) (s : State) : Byte × State :=
  let b := drawBit s
  twoBits b7 b.1 b.2

/-- `INPT0` to `INPT3`: bit 7 is the paddle line (R298). -/
def readPot (k : Pot) (s : State) : Byte × State :=
  let line := potLine k s
  topBit line.1 line.2

/-- `INPT4`, `INPT5`: bit 7 is the trigger line (R302). -/
def readTrig (p : Port) (s : State) : Byte × State := topBit (trigLine s p) s

/-- An unassigned read select: `draw_8()` and a log entry (R304, R99). -/
def readUnassigned (k : Nat) (addr : Addr) (s : State) : Byte × State := drawByte (s.log .unimplementedRegister k addr)

/-! ## Registers -/

/-- `CXM0P` (R290). -/
def rdCxm0p (s : State) : Byte × State := twoBits s.tia.cx.m0p1 s.tia.cx.m0p0 s

/-- `CXM1P` (R291). -/
def rdCxm1p (s : State) : Byte × State := twoBits s.tia.cx.m1p0 s.tia.cx.m1p1 s

/-- `CXP0FB` (R292). -/
def rdCxp0fb (s : State) : Byte × State := twoBits s.tia.cx.p0pf s.tia.cx.p0bl s

/-- `CXP1FB` (R293). -/
def rdCxp1fb (s : State) : Byte × State := twoBits s.tia.cx.p1pf s.tia.cx.p1bl s

/-- `CXM0FB` (R294). -/
def rdCxm0fb (s : State) : Byte × State := twoBits s.tia.cx.m0pf s.tia.cx.m0bl s

/-- `CXM1FB` (R295). -/
def rdCxm1fb (s : State) : Byte × State := twoBits s.tia.cx.m1pf s.tia.cx.m1bl s

/-- `CXBLPF` (R296). -/
def rdCxblpf (s : State) : Byte × State := topBit s.tia.cx.blpf s

/-- `CXPPMM` (R297). -/
def rdCxppmm (s : State) : Byte × State := twoBits s.tia.cx.p0p1 s.tia.cx.m0m1 s

/-- `INPT0` (R298). -/
def rdInpt0 (s : State) : Byte × State := readPot .pot0 s

/-- `INPT1` (R299). -/
def rdInpt1 (s : State) : Byte × State := readPot .pot1 s

/-- `INPT2` (R300). -/
def rdInpt2 (s : State) : Byte × State := readPot .pot2 s

/-- `INPT3` (R301). -/
def rdInpt3 (s : State) : Byte × State := readPot .pot3 s

/-- `INPT4` (R302). -/
def rdInpt4 (s : State) : Byte × State := readTrig .port0 s

/-- `INPT5` (R303). -/
def rdInpt5 (s : State) : Byte × State := readTrig .port1 s

/-- `TIAR.UNASSIGNED_E` (R304). -/
def rdTiarE (addr : Addr) (s : State) : Byte × State := readUnassigned 0xE addr s

/-- `TIAR.UNASSIGNED_F` (R304). -/
def rdTiarF (addr : Addr) (s : State) : Byte × State := readUnassigned 0xF addr s

/-- `TIA.READ(s)` for the select `s = a[3:0]` (R288). -/
def tiaRead (addr : Addr) (s : State) : Byte × State :=
  match a4 addr with
  | 0x0 => rdCxm0p s
  | 0x1 => rdCxm1p s
  | 0x2 => rdCxp0fb s
  | 0x3 => rdCxp1fb s
  | 0x4 => rdCxm0fb s
  | 0x5 => rdCxm1fb s
  | 0x6 => rdCxblpf s
  | 0x7 => rdCxppmm s
  | 0x8 => rdInpt0 s
  | 0x9 => rdInpt1 s
  | 0xA => rdInpt2 s
  | 0xB => rdInpt3 s
  | 0xC => rdInpt4 s
  | 0xD => rdInpt5 s
  | 0xE => rdTiarE addr s
  | _ => rdTiarF addr s

/-! ## Rows -/

/-- `CXM0P`, R290. -/
def execCxm0p (addr : Addr) (s : State) : Host.Outcome State Fault Refusal := readCycle addr rdCxm0p s

/-- `CXM1P`, R291. -/
def execCxm1p (addr : Addr) (s : State) : Host.Outcome State Fault Refusal := readCycle addr rdCxm1p s

/-- `CXP0FB`, R292. -/
def execCxp0fb (addr : Addr) (s : State) : Host.Outcome State Fault Refusal := readCycle addr rdCxp0fb s

/-- `CXP1FB`, R293. -/
def execCxp1fb (addr : Addr) (s : State) : Host.Outcome State Fault Refusal := readCycle addr rdCxp1fb s

/-- `CXM0FB`, R294. -/
def execCxm0fb (addr : Addr) (s : State) : Host.Outcome State Fault Refusal := readCycle addr rdCxm0fb s

/-- `CXM1FB`, R295. -/
def execCxm1fb (addr : Addr) (s : State) : Host.Outcome State Fault Refusal := readCycle addr rdCxm1fb s

/-- `CXBLPF`, R296. -/
def execCxblpf (addr : Addr) (s : State) : Host.Outcome State Fault Refusal := readCycle addr rdCxblpf s

/-- `CXPPMM`, R297. -/
def execCxppmm (addr : Addr) (s : State) : Host.Outcome State Fault Refusal := readCycle addr rdCxppmm s

/-- `INPT0`, R298. -/
def execInpt0 (addr : Addr) (s : State) : Host.Outcome State Fault Refusal := readCycle addr rdInpt0 s

/-- `INPT1`, R299. -/
def execInpt1 (addr : Addr) (s : State) : Host.Outcome State Fault Refusal := readCycle addr rdInpt1 s

/-- `INPT2`, R300. -/
def execInpt2 (addr : Addr) (s : State) : Host.Outcome State Fault Refusal := readCycle addr rdInpt2 s

/-- `INPT3`, R301. -/
def execInpt3 (addr : Addr) (s : State) : Host.Outcome State Fault Refusal := readCycle addr rdInpt3 s

/-- `INPT4`, R302. -/
def execInpt4 (addr : Addr) (s : State) : Host.Outcome State Fault Refusal := readCycle addr rdInpt4 s

/-- `INPT5`, R303. -/
def execInpt5 (addr : Addr) (s : State) : Host.Outcome State Fault Refusal := readCycle addr rdInpt5 s

/-- `TIAR.UNASSIGNED_E`, R304. -/
def execTiarE (addr : Addr) (s : State) : Host.Outcome State Fault Refusal := readCycle addr (rdTiarE addr) s

/-- `TIAR.UNASSIGNED_F`, R304. -/
def execTiarF (addr : Addr) (s : State) : Host.Outcome State Fault Refusal := readCycle addr (rdTiarF addr) s

end Sys2Proof.Machine
end

