-- ==== Sys2Proof/Machine/TiaWrites.lean ====
section
/-! DEFINITION. The video chip's write registers (R240 to R287): the effect of each, and the meaning of each row `TIAW`,
which is that effect inside a bus write. -/

namespace Sys2Proof.Machine

/-! ## Effects -/

/-- `VSYNC` (R242): a falling edge completes the frame and resets the line counter; `tia.x` is not changed. -/
def wrVsync (d : Byte) (s : State) : State :=
  if s.tia.vsync && !bit d 1 then
    s.setTia { s.tia with
      lastFrameLines := s.tia.y - Config.yTop s.tvFormat
      frameReady := true
      y := Config.yTop s.tvFormat
      vsync := false }
  else s.setTia { s.tia with vsync := bit d 1 }

/-- The paddle part of `VBLANK`: the dump discharges, its release starts the charging (R243). -/
def dumpPaddles (d : Byte) (s : State) : Io :=
  if bit d 7 then
    { s.io with paddleCharged0 := false, paddleCharged1 := false, paddleCharged2 := false, paddleCharged3 := false }
  else if s.tia.vblankDump then { s.io with paddleStart := s.cycles }
  else s.io

/-- The latch part of `VBLANK`: latch mode off resets the sticky latches (R243). -/
def resetLatches (d : Byte) (io : Io) : Io :=
  if bit d 6 then io else { io with inptLatch0 := true, inptLatch1 := true }

/-- `VBLANK` (R243). -/
def wrVblank (d : Byte) (s : State) : State :=
  { s with
    io := resetLatches d (dumpPaddles d s)
    tia := { s.tia with vblankBlank := bit d 1, vblankLatch := bit d 6, vblankDump := bit d 7 } }

/-- `WSYNC` (R244), a strobe. -/
def wrWsync (s : State) : State := s.setTia { s.tia with waitHBlank := true }

/-- `RSYNC` (R245, R99), a strobe that changes no state but the log. -/
def wrRsync (addr : Addr) (s : State) : State := s.log .unimplementedRegister 0x03 addr

/-- `NUSIZ0` (R246). -/
def wrNusiz0 (d : Byte) (s : State) : State :=
  s.setTia { s.tia with p0 := { s.tia.p0 with nusiz := lo3 d }, m0 := { s.tia.m0 with size := size2 d } }

/-- `NUSIZ1` (R247). -/
def wrNusiz1 (d : Byte) (s : State) : State :=
  s.setTia { s.tia with p1 := { s.tia.p1 with nusiz := lo3 d }, m1 := { s.tia.m1 with size := size2 d } }

/-- `COLUP0` (R248). -/
def wrColup0 (d : Byte) (s : State) : State := s.setTia { s.tia with p0 := { s.tia.p0 with colu := d } }

/-- `COLUP1` (R249). -/
def wrColup1 (d : Byte) (s : State) : State := s.setTia { s.tia with p1 := { s.tia.p1 with colu := d } }

/-- `COLUPF` (R250). -/
def wrColupf (d : Byte) (s : State) : State := s.setTia { s.tia with colupf := d }

/-- `COLUBK` (R251). -/
def wrColubk (d : Byte) (s : State) : State := s.setTia { s.tia with colubk := d }

/-- `CTRLPF` (R252). -/
def wrCtrlpf (d : Byte) (s : State) : State :=
  s.setTia { s.tia with
    pfReflect := bit d 0
    pfScore := bit d 1
    pfPriority := bit d 2
    bl := { s.tia.bl with size := size2 d } }

/-- `REFP0` (R253). -/
def wrRefp0 (d : Byte) (s : State) : State := s.setTia { s.tia with p0 := { s.tia.p0 with refl := bit d 3 } }

/-- `REFP1` (R254). -/
def wrRefp1 (d : Byte) (s : State) : State := s.setTia { s.tia with p1 := { s.tia.p1 with refl := bit d 3 } }

/-- Pattern bits 0 to 3 take `d[4]` to `d[7]` (R255). -/
def loadPf0 (pf : BitVec 20) (d : Byte) : BitVec 20 := (pf &&& 0xFFFF0#20) ||| (hi4 d).setWidth 20

/-- `PF0` (R255): only the to-load register changes. -/
def wrPf0 (d : Byte) (s : State) : State := s.setTia { s.tia with pfToLoad := loadPf0 s.tia.pfToLoad d }

/-- Pattern bit `4 + j` takes `d[7 - j]` (R256). -/
def loadPf1 (pf : BitVec 20) (d : Byte) : BitVec 20 :=
  (pf &&& 0xFF00F#20) ||| ((reverseBits d).setWidth 20 <<< 4)

/-- `PF1` (R256). -/
def wrPf1 (d : Byte) (s : State) : State := s.setTia { s.tia with pfToLoad := loadPf1 s.tia.pfToLoad d }

/-- Pattern bit `12 + j` takes `d[j]` (R257). -/
def loadPf2 (pf : BitVec 20) (d : Byte) : BitVec 20 := (pf &&& 0x00FFF#20) ||| (d.setWidth 20 <<< 12)

/-- `PF2` (R257). -/
def wrPf2 (d : Byte) (s : State) : State := s.setTia { s.tia with pfToLoad := loadPf2 s.tia.pfToLoad d }

/-- The position a player's strobe takes from the beam (R258). -/
def strobedP (x : Int) : Nat := if x < 0 then Config.resHblankP else emod (x + Config.resDelayP) Config.visibleClocks

/-- The position a missile's or the ball's strobe takes from the beam (R260). -/
def strobedMB (x : Int) : Nat := if x < 0 then Config.resHblankMB else emod (x + Config.resDelayMB) Config.visibleClocks

/-- `RESP0` (R258), a strobe. -/
def wrResp0 (s : State) : State := s.setTia { s.tia with p0 := { s.tia.p0 with pos := strobedP s.tia.x } }

/-- `RESP1` (R259), a strobe. -/
def wrResp1 (s : State) : State := s.setTia { s.tia with p1 := { s.tia.p1 with pos := strobedP s.tia.x } }

/-- `RESM0` (R260), a strobe. -/
def wrResm0 (s : State) : State := s.setTia { s.tia with m0 := { s.tia.m0 with pos := strobedMB s.tia.x } }

/-- `RESM1` (R261), a strobe. -/
def wrResm1 (s : State) : State := s.setTia { s.tia with m1 := { s.tia.m1 with pos := strobedMB s.tia.x } }

/-- `RESBL` (R262), a strobe. -/
def wrResbl (s : State) : State := s.setTia { s.tia with bl := { s.tia.bl with pos := strobedMB s.tia.x } }

/-- `AUDC0` (R263). -/
def wrAudc0 (d : Byte) (s : State) : State := s.setApu { s.apu with ch0 := { s.apu.ch0 with audc := lo4 d } }

/-- `AUDC1` (R264). -/
def wrAudc1 (d : Byte) (s : State) : State := s.setApu { s.apu with ch1 := { s.apu.ch1 with audc := lo4 d } }

/-- `AUDF0` (R265). -/
def wrAudf0 (d : Byte) (s : State) : State := s.setApu { s.apu with ch0 := { s.apu.ch0 with audf := lo5 d } }

/-- `AUDF1` (R266). -/
def wrAudf1 (d : Byte) (s : State) : State := s.setApu { s.apu with ch1 := { s.apu.ch1 with audf := lo5 d } }

/-- `AUDV0` (R267). -/
def wrAudv0 (d : Byte) (s : State) : State := s.setApu { s.apu with ch0 := { s.apu.ch0 with audv := lo4 d } }

/-- `AUDV1` (R268). -/
def wrAudv1 (d : Byte) (s : State) : State := s.setApu { s.apu with ch1 := { s.apu.ch1 with audv := lo4 d } }

/-- `GRP0` (R269): the other player's delayed latch takes its new shape. -/
def wrGrp0 (d : Byte) (s : State) : State :=
  s.setTia { s.tia with p0 := { s.tia.p0 with grpNew := d }, p1 := { s.tia.p1 with grpOld := s.tia.p1.grpNew } }

/-- `GRP1` (R270): the other player's and the ball's delayed latches are loaded. -/
def wrGrp1 (d : Byte) (s : State) : State :=
  s.setTia { s.tia with
    p1 := { s.tia.p1 with grpNew := d }
    p0 := { s.tia.p0 with grpOld := s.tia.p0.grpNew }
    bl := { s.tia.bl with enOld := s.tia.bl.enNew } }

/-- `ENAM0` (R271). -/
def wrEnam0 (d : Byte) (s : State) : State := s.setTia { s.tia with m0 := { s.tia.m0 with enabled := bit d 1 } }

/-- `ENAM1` (R272). -/
def wrEnam1 (d : Byte) (s : State) : State := s.setTia { s.tia with m1 := { s.tia.m1 with enabled := bit d 1 } }

/-- `ENABL` (R273). -/
def wrEnabl (d : Byte) (s : State) : State := s.setTia { s.tia with bl := { s.tia.bl with enNew := bit d 1 } }

/-- `HMP0` (R274). -/
def wrHmp0 (d : Byte) (s : State) : State := s.setTia { s.tia with p0 := { s.tia.p0 with hm := hi4 d } }

/-- `HMP1` (R275). -/
def wrHmp1 (d : Byte) (s : State) : State := s.setTia { s.tia with p1 := { s.tia.p1 with hm := hi4 d } }

/-- `HMM0` (R276). -/
def wrHmm0 (d : Byte) (s : State) : State := s.setTia { s.tia with m0 := { s.tia.m0 with hm := hi4 d } }

/-- `HMM1` (R277). -/
def wrHmm1 (d : Byte) (s : State) : State := s.setTia { s.tia with m1 := { s.tia.m1 with hm := hi4 d } }

/-- `HMBL` (R278). -/
def wrHmbl (d : Byte) (s : State) : State := s.setTia { s.tia with bl := { s.tia.bl with hm := hi4 d } }

/-- `VDELP0` (R279). -/
def wrVdelp0 (d : Byte) (s : State) : State := s.setTia { s.tia with p0 := { s.tia.p0 with vdel := bit d 0 } }

/-- `VDELP1` (R280). -/
def wrVdelp1 (d : Byte) (s : State) : State := s.setTia { s.tia with p1 := { s.tia.p1 with vdel := bit d 0 } }

/-- `VDELBL` (R281). -/
def wrVdelbl (d : Byte) (s : State) : State := s.setTia { s.tia with bl := { s.tia.bl with vdel := bit d 0 } }

/-- `RESMP0` (R282). -/
def wrResmp0 (d : Byte) (s : State) : State := s.setTia { s.tia with m0 := { s.tia.m0 with resmp := bit d 1 } }

/-- `RESMP1` (R283). -/
def wrResmp1 (d : Byte) (s : State) : State := s.setTia { s.tia with m1 := { s.tia.m1 with resmp := bit d 1 } }

/-- `HMOVE` (R284), a strobe. -/
def wrHmove (s : State) : State := s.setTia { s.tia with hmovePending := true, hmoveLate := decide (0 ≤ s.tia.x) }

/-- `HMCLR` (R285), a strobe. -/
def wrHmclr (s : State) : State :=
  s.setTia { s.tia with
    p0 := { s.tia.p0 with hm := 0 }
    p1 := { s.tia.p1 with hm := 0 }
    m0 := { s.tia.m0 with hm := 0 }
    m1 := { s.tia.m1 with hm := 0 }
    bl := { s.tia.bl with hm := 0 } }

/-- `CXCLR` (R286), a strobe. -/
def wrCxclr (s : State) : State := s.setTia { s.tia with cx := noCollisions }

/-- The unassigned selects 0x2D..0x3F: no state change, logged with the select (R287) and the address (R99). -/
def wrUnassigned (k : Nat) (addr : Addr) (s : State) : State := s.log .unimplementedRegister k addr

/-- `TIA.WRITE(s, d)` for the select `s = a[5:0]` (R240). -/
def tiaWrite (addr : Addr) (d : Byte) (s : State) : State :=
  match a6 addr with
  | 0x00 => wrVsync d s
  | 0x01 => wrVblank d s
  | 0x02 => wrWsync s
  | 0x03 => wrRsync addr s
  | 0x04 => wrNusiz0 d s
  | 0x05 => wrNusiz1 d s
  | 0x06 => wrColup0 d s
  | 0x07 => wrColup1 d s
  | 0x08 => wrColupf d s
  | 0x09 => wrColubk d s
  | 0x0A => wrCtrlpf d s
  | 0x0B => wrRefp0 d s
  | 0x0C => wrRefp1 d s
  | 0x0D => wrPf0 d s
  | 0x0E => wrPf1 d s
  | 0x0F => wrPf2 d s
  | 0x10 => wrResp0 s
  | 0x11 => wrResp1 s
  | 0x12 => wrResm0 s
  | 0x13 => wrResm1 s
  | 0x14 => wrResbl s
  | 0x15 => wrAudc0 d s
  | 0x16 => wrAudc1 d s
  | 0x17 => wrAudf0 d s
  | 0x18 => wrAudf1 d s
  | 0x19 => wrAudv0 d s
  | 0x1A => wrAudv1 d s
  | 0x1B => wrGrp0 d s
  | 0x1C => wrGrp1 d s
  | 0x1D => wrEnam0 d s
  | 0x1E => wrEnam1 d s
  | 0x1F => wrEnabl d s
  | 0x20 => wrHmp0 d s
  | 0x21 => wrHmp1 d s
  | 0x22 => wrHmm0 d s
  | 0x23 => wrHmm1 d s
  | 0x24 => wrHmbl d s
  | 0x25 => wrVdelp0 d s
  | 0x26 => wrVdelp1 d s
  | 0x27 => wrVdelbl d s
  | 0x28 => wrResmp0 d s
  | 0x29 => wrResmp1 d s
  | 0x2A => wrHmove s
  | 0x2B => wrHmclr s
  | 0x2C => wrCxclr s
  | k => wrUnassigned k addr s

/-! ## Rows -/

/-- `VSYNC`, R242. -/
def execVsync (addr : Addr) (d : Byte) (s : State) : Host.Outcome State Fault Refusal :=
  writeCycle addr d (wrVsync d) s

/-- `VBLANK`, R243. -/
def execVblank (addr : Addr) (d : Byte) (s : State) : Host.Outcome State Fault Refusal :=
  writeCycle addr d (wrVblank d) s

/-- `WSYNC`, R244. -/
def execWsync (addr : Addr) (d : Byte) (s : State) : Host.Outcome State Fault Refusal :=
  writeCycle addr d wrWsync s

/-- `RSYNC`, R245. -/
def execRsync (addr : Addr) (d : Byte) (s : State) : Host.Outcome State Fault Refusal :=
  writeCycle addr d (wrRsync addr) s

/-- `NUSIZ0`, R246. -/
def execNusiz0 (addr : Addr) (d : Byte) (s : State) : Host.Outcome State Fault Refusal :=
  writeCycle addr d (wrNusiz0 d) s

/-- `NUSIZ1`, R247. -/
def execNusiz1 (addr : Addr) (d : Byte) (s : State) : Host.Outcome State Fault Refusal :=
  writeCycle addr d (wrNusiz1 d) s

/-- `COLUP0`, R248. -/
def execColup0 (addr : Addr) (d : Byte) (s : State) : Host.Outcome State Fault Refusal :=
  writeCycle addr d (wrColup0 d) s

/-- `COLUP1`, R249. -/
def execColup1 (addr : Addr) (d : Byte) (s : State) : Host.Outcome State Fault Refusal :=
  writeCycle addr d (wrColup1 d) s

/-- `COLUPF`, R250. -/
def execColupf (addr : Addr) (d : Byte) (s : State) : Host.Outcome State Fault Refusal :=
  writeCycle addr d (wrColupf d) s

/-- `COLUBK`, R251. -/
def execColubk (addr : Addr) (d : Byte) (s : State) : Host.Outcome State Fault Refusal :=
  writeCycle addr d (wrColubk d) s

/-- `CTRLPF`, R252. -/
def execCtrlpf (addr : Addr) (d : Byte) (s : State) : Host.Outcome State Fault Refusal :=
  writeCycle addr d (wrCtrlpf d) s

/-- `REFP0`, R253. -/
def execRefp0 (addr : Addr) (d : Byte) (s : State) : Host.Outcome State Fault Refusal :=
  writeCycle addr d (wrRefp0 d) s

/-- `REFP1`, R254. -/
def execRefp1 (addr : Addr) (d : Byte) (s : State) : Host.Outcome State Fault Refusal :=
  writeCycle addr d (wrRefp1 d) s

/-- `PF0`, R255. -/
def execPf0 (addr : Addr) (d : Byte) (s : State) : Host.Outcome State Fault Refusal :=
  writeCycle addr d (wrPf0 d) s

/-- `PF1`, R256. -/
def execPf1 (addr : Addr) (d : Byte) (s : State) : Host.Outcome State Fault Refusal :=
  writeCycle addr d (wrPf1 d) s

/-- `PF2`, R257. -/
def execPf2 (addr : Addr) (d : Byte) (s : State) : Host.Outcome State Fault Refusal :=
  writeCycle addr d (wrPf2 d) s

/-- `RESP0`, R258. -/
def execResp0 (addr : Addr) (d : Byte) (s : State) : Host.Outcome State Fault Refusal :=
  writeCycle addr d wrResp0 s

/-- `RESP1`, R259. -/
def execResp1 (addr : Addr) (d : Byte) (s : State) : Host.Outcome State Fault Refusal :=
  writeCycle addr d wrResp1 s

/-- `RESM0`, R260. -/
def execResm0 (addr : Addr) (d : Byte) (s : State) : Host.Outcome State Fault Refusal :=
  writeCycle addr d wrResm0 s

/-- `RESM1`, R261. -/
def execResm1 (addr : Addr) (d : Byte) (s : State) : Host.Outcome State Fault Refusal :=
  writeCycle addr d wrResm1 s

/-- `RESBL`, R262. -/
def execResbl (addr : Addr) (d : Byte) (s : State) : Host.Outcome State Fault Refusal :=
  writeCycle addr d wrResbl s

/-- `AUDC0`, R263. -/
def execAudc0 (addr : Addr) (d : Byte) (s : State) : Host.Outcome State Fault Refusal :=
  writeCycle addr d (wrAudc0 d) s

/-- `AUDC1`, R264. -/
def execAudc1 (addr : Addr) (d : Byte) (s : State) : Host.Outcome State Fault Refusal :=
  writeCycle addr d (wrAudc1 d) s

/-- `AUDF0`, R265. -/
def execAudf0 (addr : Addr) (d : Byte) (s : State) : Host.Outcome State Fault Refusal :=
  writeCycle addr d (wrAudf0 d) s

/-- `AUDF1`, R266. -/
def execAudf1 (addr : Addr) (d : Byte) (s : State) : Host.Outcome State Fault Refusal :=
  writeCycle addr d (wrAudf1 d) s

/-- `AUDV0`, R267. -/
def execAudv0 (addr : Addr) (d : Byte) (s : State) : Host.Outcome State Fault Refusal :=
  writeCycle addr d (wrAudv0 d) s

/-- `AUDV1`, R268. -/
def execAudv1 (addr : Addr) (d : Byte) (s : State) : Host.Outcome State Fault Refusal :=
  writeCycle addr d (wrAudv1 d) s

/-- `GRP0`, R269. -/
def execGrp0 (addr : Addr) (d : Byte) (s : State) : Host.Outcome State Fault Refusal :=
  writeCycle addr d (wrGrp0 d) s

/-- `GRP1`, R270. -/
def execGrp1 (addr : Addr) (d : Byte) (s : State) : Host.Outcome State Fault Refusal :=
  writeCycle addr d (wrGrp1 d) s

/-- `ENAM0`, R271. -/
def execEnam0 (addr : Addr) (d : Byte) (s : State) : Host.Outcome State Fault Refusal :=
  writeCycle addr d (wrEnam0 d) s

/-- `ENAM1`, R272. -/
def execEnam1 (addr : Addr) (d : Byte) (s : State) : Host.Outcome State Fault Refusal :=
  writeCycle addr d (wrEnam1 d) s

/-- `ENABL`, R273. -/
def execEnabl (addr : Addr) (d : Byte) (s : State) : Host.Outcome State Fault Refusal :=
  writeCycle addr d (wrEnabl d) s

/-- `HMP0`, R274. -/
def execHmp0 (addr : Addr) (d : Byte) (s : State) : Host.Outcome State Fault Refusal :=
  writeCycle addr d (wrHmp0 d) s

/-- `HMP1`, R275. -/
def execHmp1 (addr : Addr) (d : Byte) (s : State) : Host.Outcome State Fault Refusal :=
  writeCycle addr d (wrHmp1 d) s

/-- `HMM0`, R276. -/
def execHmm0 (addr : Addr) (d : Byte) (s : State) : Host.Outcome State Fault Refusal :=
  writeCycle addr d (wrHmm0 d) s

/-- `HMM1`, R277. -/
def execHmm1 (addr : Addr) (d : Byte) (s : State) : Host.Outcome State Fault Refusal :=
  writeCycle addr d (wrHmm1 d) s

/-- `HMBL`, R278. -/
def execHmbl (addr : Addr) (d : Byte) (s : State) : Host.Outcome State Fault Refusal :=
  writeCycle addr d (wrHmbl d) s

/-- `VDELP0`, R279. -/
def execVdelp0 (addr : Addr) (d : Byte) (s : State) : Host.Outcome State Fault Refusal :=
  writeCycle addr d (wrVdelp0 d) s

/-- `VDELP1`, R280. -/
def execVdelp1 (addr : Addr) (d : Byte) (s : State) : Host.Outcome State Fault Refusal :=
  writeCycle addr d (wrVdelp1 d) s

/-- `VDELBL`, R281. -/
def execVdelbl (addr : Addr) (d : Byte) (s : State) : Host.Outcome State Fault Refusal :=
  writeCycle addr d (wrVdelbl d) s

/-- `RESMP0`, R282. -/
def execResmp0 (addr : Addr) (d : Byte) (s : State) : Host.Outcome State Fault Refusal :=
  writeCycle addr d (wrResmp0 d) s

/-- `RESMP1`, R283. -/
def execResmp1 (addr : Addr) (d : Byte) (s : State) : Host.Outcome State Fault Refusal :=
  writeCycle addr d (wrResmp1 d) s

/-- `HMOVE`, R284. -/
def execHmove (addr : Addr) (d : Byte) (s : State) : Host.Outcome State Fault Refusal :=
  writeCycle addr d wrHmove s

/-- `HMCLR`, R285. -/
def execHmclr (addr : Addr) (d : Byte) (s : State) : Host.Outcome State Fault Refusal :=
  writeCycle addr d wrHmclr s

/-- `CXCLR`, R286. -/
def execCxclr (addr : Addr) (d : Byte) (s : State) : Host.Outcome State Fault Refusal :=
  writeCycle addr d wrCxclr s

/-- `TIAW.UNASSIGNED_2D`, R287. -/
def execTiaw2D (addr : Addr) (d : Byte) (s : State) : Host.Outcome State Fault Refusal :=
  writeCycle addr d (wrUnassigned 0x2D addr) s

/-- `TIAW.UNASSIGNED_2E`, R287. -/
def execTiaw2E (addr : Addr) (d : Byte) (s : State) : Host.Outcome State Fault Refusal :=
  writeCycle addr d (wrUnassigned 0x2E addr) s

/-- `TIAW.UNASSIGNED_2F`, R287. -/
def execTiaw2F (addr : Addr) (d : Byte) (s : State) : Host.Outcome State Fault Refusal :=
  writeCycle addr d (wrUnassigned 0x2F addr) s

/-- `TIAW.UNASSIGNED_30`, R287. -/
def execTiaw30 (addr : Addr) (d : Byte) (s : State) : Host.Outcome State Fault Refusal :=
  writeCycle addr d (wrUnassigned 0x30 addr) s

/-- `TIAW.UNASSIGNED_31`, R287. -/
def execTiaw31 (addr : Addr) (d : Byte) (s : State) : Host.Outcome State Fault Refusal :=
  writeCycle addr d (wrUnassigned 0x31 addr) s

/-- `TIAW.UNASSIGNED_32`, R287. -/
def execTiaw32 (addr : Addr) (d : Byte) (s : State) : Host.Outcome State Fault Refusal :=
  writeCycle addr d (wrUnassigned 0x32 addr) s

/-- `TIAW.UNASSIGNED_33`, R287. -/
def execTiaw33 (addr : Addr) (d : Byte) (s : State) : Host.Outcome State Fault Refusal :=
  writeCycle addr d (wrUnassigned 0x33 addr) s

/-- `TIAW.UNASSIGNED_34`, R287. -/
def execTiaw34 (addr : Addr) (d : Byte) (s : State) : Host.Outcome State Fault Refusal :=
  writeCycle addr d (wrUnassigned 0x34 addr) s

/-- `TIAW.UNASSIGNED_35`, R287. -/
def execTiaw35 (addr : Addr) (d : Byte) (s : State) : Host.Outcome State Fault Refusal :=
  writeCycle addr d (wrUnassigned 0x35 addr) s

/-- `TIAW.UNASSIGNED_36`, R287. -/
def execTiaw36 (addr : Addr) (d : Byte) (s : State) : Host.Outcome State Fault Refusal :=
  writeCycle addr d (wrUnassigned 0x36 addr) s

/-- `TIAW.UNASSIGNED_37`, R287. -/
def execTiaw37 (addr : Addr) (d : Byte) (s : State) : Host.Outcome State Fault Refusal :=
  writeCycle addr d (wrUnassigned 0x37 addr) s

/-- `TIAW.UNASSIGNED_38`, R287. -/
def execTiaw38 (addr : Addr) (d : Byte) (s : State) : Host.Outcome State Fault Refusal :=
  writeCycle addr d (wrUnassigned 0x38 addr) s

/-- `TIAW.UNASSIGNED_39`, R287. -/
def execTiaw39 (addr : Addr) (d : Byte) (s : State) : Host.Outcome State Fault Refusal :=
  writeCycle addr d (wrUnassigned 0x39 addr) s

/-- `TIAW.UNASSIGNED_3A`, R287. -/
def execTiaw3A (addr : Addr) (d : Byte) (s : State) : Host.Outcome State Fault Refusal :=
  writeCycle addr d (wrUnassigned 0x3A addr) s

/-- `TIAW.UNASSIGNED_3B`, R287. -/
def execTiaw3B (addr : Addr) (d : Byte) (s : State) : Host.Outcome State Fault Refusal :=
  writeCycle addr d (wrUnassigned 0x3B addr) s

/-- `TIAW.UNASSIGNED_3C`, R287. -/
def execTiaw3C (addr : Addr) (d : Byte) (s : State) : Host.Outcome State Fault Refusal :=
  writeCycle addr d (wrUnassigned 0x3C addr) s

/-- `TIAW.UNASSIGNED_3D`, R287. -/
def execTiaw3D (addr : Addr) (d : Byte) (s : State) : Host.Outcome State Fault Refusal :=
  writeCycle addr d (wrUnassigned 0x3D addr) s

/-- `TIAW.UNASSIGNED_3E`, R287. -/
def execTiaw3E (addr : Addr) (d : Byte) (s : State) : Host.Outcome State Fault Refusal :=
  writeCycle addr d (wrUnassigned 0x3E addr) s

/-- `TIAW.UNASSIGNED_3F`, R287. -/
def execTiaw3F (addr : Addr) (d : Byte) (s : State) : Host.Outcome State Fault Refusal :=
  writeCycle addr d (wrUnassigned 0x3F addr) s

end Sys2Proof.Machine
end

