-- ==== Sys2Proof/Machine/TimerIo.lean ====
section
/-! DEFINITION. RAM (R125, R126), the ports (R361 to R370), the interval timer (R366 to R376), and `INPUT.SAMPLE`
(R445). -/

namespace Sys2Proof.Machine

/-! ## RAM -/

/-- `bus.ram[a[6:0]]` (R125). -/
def rdRam (addr : Addr) (s : State) : Byte × State := (s.bus.ram.read (a7 addr), s)

/-- `bus.ram[a[6:0]] <- d` (R126). -/
def wrRam (addr : Addr) (d : Byte) (s : State) : State := s.setRam (a7 addr) d

/-! ## Ports -/

/-- `SWCHA` read (R361). -/
def rdSwcha (s : State) : Byte × State := (portRead s.io.swchaOut s.io.swacnt (pinsA s), s)

/-- `SWACNT` read (R363). -/
def rdSwacnt (s : State) : Byte × State := (s.io.swacnt, s)

/-- `SWCHB` read (R365). -/
def rdSwchb (s : State) : Byte × State := (portRead s.io.swchbOut s.io.swbcnt (pinsB s.input), s)

/-- `SWBCNT` read (R369). -/
def rdSwbcnt (s : State) : Byte × State := (s.io.swbcnt, s)

/-- `SWCHA` write (R362). -/
def wrSwcha (d : Byte) (s : State) : State := s.setIo { s.io with swchaOut := d }

/-- `SWACNT` write (R364). -/
def wrSwacnt (d : Byte) (s : State) : State := s.setIo { s.io with swacnt := d }

/-- `SWCHB` write (R368). -/
def wrSwchb (d : Byte) (s : State) : State := s.setIo { s.io with swchbOut := d }

/-- `SWBCNT` write (R370). -/
def wrSwbcnt (d : Byte) (s : State) : State := s.setIo { s.io with swbcnt := d }

/-! ## Timer -/

/-- `INTIM` read: consumes the first sticky flag (R366). -/
def rdIntim (s : State) : Byte × State := (s.timer.intim, s.setTimer { s.timer with ufIntim := false })

/-- `TIMINT` read: consumes the second sticky flag (R367). -/
def rdTimint (s : State) : Byte × State :=
  (if s.timer.ufStatus then 0x80 else 0x00, s.setTimer { s.timer with ufStatus := false })

/-- `timerWrite(D, V)`: one decrement is part of the write (R371). -/
def Timer.write (i : Divider) (v : Byte) (t : Timer) : Timer :=
  (Timer.decrement { t with interval := i, ufIntim := false, ufStatus := false, intim := v }).reload

/-- `timerWrite(D, V)` on the whole state (R371). -/
def wrTimer (i : Divider) (d : Byte) (s : State) : State := s.setTimer (s.timer.write i d)

/-- `EDGECTL`: no state change but the log (R375). -/
def wrEdgectl (addr : Addr) (s : State) : State := s.log .unimplementedRegister (a13 addr) addr

/-- `TIMER.TICK` (R376). -/
def Timer.tick (t : Timer) : Timer :=
  if t.sub - 1 = 0 then (Timer.decrement { t with sub := t.sub - 1 }).reload else { t with sub := t.sub - 1 }

/-- `TIMER.TICK` on the whole state. -/
def timerTick (s : State) : State := s.setTimer s.timer.tick

/-! ## Dispatch of the region (R360) -/

/-- `IO.READ(a)` (R360). -/
def ioRead (addr : Addr) (s : State) : Byte × State :=
  if !timerSelect addr then
    match a2 addr with
    | 0 => rdSwcha s
    | 1 => rdSwacnt s
    | 2 => rdSwchb s
    | _ => rdSwbcnt s
  else if !addr.getLsbD 0 then rdIntim s
  else rdTimint s

/-- `IO.WRITE(a, d)` (R360). -/
def ioWrite (addr : Addr) (d : Byte) (s : State) : State :=
  if !timerSelect addr then
    match a2 addr with
    | 0 => wrSwcha d s
    | 1 => wrSwacnt d s
    | 2 => wrSwchb d s
    | _ => wrSwbcnt d s
  else if addr.getLsbD 4 then
    match a2 addr with
    | 0 => wrTimer .d1 d s
    | 1 => wrTimer .d8 d s
    | 2 => wrTimer .d64 d s
    | _ => wrTimer .d1024 d s
  else wrEdgectl addr s

/-! ## Rows -/

/-- `RAM.RD`, R125. -/
def execRamRd (addr : Addr) (s : State) : Host.Outcome State Fault Refusal :=
  readCycle addr (rdRam addr) s

/-- `RAM.WR`, R126. -/
def execRamWr (addr : Addr) (d : Byte) (s : State) : Host.Outcome State Fault Refusal :=
  writeCycle addr d (wrRam addr d) s

/-- `SWCHA.RD`, R361. -/
def execSwchaRd (addr : Addr) (s : State) : Host.Outcome State Fault Refusal :=
  readCycle addr rdSwcha s

/-- `SWCHA.WR`, R362. -/
def execSwchaWr (addr : Addr) (d : Byte) (s : State) : Host.Outcome State Fault Refusal :=
  writeCycle addr d (wrSwcha d) s

/-- `SWACNT.RD`, R363. -/
def execSwacntRd (addr : Addr) (s : State) : Host.Outcome State Fault Refusal :=
  readCycle addr rdSwacnt s

/-- `SWACNT.WR`, R364. -/
def execSwacntWr (addr : Addr) (d : Byte) (s : State) : Host.Outcome State Fault Refusal :=
  writeCycle addr d (wrSwacnt d) s

/-- `SWCHB.RD`, R365. -/
def execSwchbRd (addr : Addr) (s : State) : Host.Outcome State Fault Refusal :=
  readCycle addr rdSwchb s

/-- `SWCHB.WR`, R368. -/
def execSwchbWr (addr : Addr) (d : Byte) (s : State) : Host.Outcome State Fault Refusal :=
  writeCycle addr d (wrSwchb d) s

/-- `SWBCNT.RD`, R369. -/
def execSwbcntRd (addr : Addr) (s : State) : Host.Outcome State Fault Refusal :=
  readCycle addr rdSwbcnt s

/-- `SWBCNT.WR`, R370. -/
def execSwbcntWr (addr : Addr) (d : Byte) (s : State) : Host.Outcome State Fault Refusal :=
  writeCycle addr d (wrSwbcnt d) s

/-- `INTIM`, R366. -/
def execIntim (addr : Addr) (s : State) : Host.Outcome State Fault Refusal :=
  readCycle addr rdIntim s

/-- `TIMINT`, R367. -/
def execTimint (addr : Addr) (s : State) : Host.Outcome State Fault Refusal :=
  readCycle addr rdTimint s

/-- `TIM1T`, R371. -/
def execTim1t (addr : Addr) (d : Byte) (s : State) : Host.Outcome State Fault Refusal :=
  writeCycle addr d (wrTimer .d1 d) s

/-- `TIM8T`, R372. -/
def execTim8t (addr : Addr) (d : Byte) (s : State) : Host.Outcome State Fault Refusal :=
  writeCycle addr d (wrTimer .d8 d) s

/-- `TIM64T`, R373. -/
def execTim64t (addr : Addr) (d : Byte) (s : State) : Host.Outcome State Fault Refusal :=
  writeCycle addr d (wrTimer .d64 d) s

/-- `T1024T`, R374. -/
def execT1024t (addr : Addr) (d : Byte) (s : State) : Host.Outcome State Fault Refusal :=
  writeCycle addr d (wrTimer .d1024 d) s

/-- `EDGECTL`, R375. -/
def execEdgectl (addr : Addr) (d : Byte) (s : State) : Host.Outcome State Fault Refusal :=
  writeCycle addr d (wrEdgectl addr) s

/-- `TIMER.TICK`, R376. -/
def execTimerTick (s : State) : Host.Outcome State Fault Refusal := whileLive timerTick s

/-- `INPUT.SAMPLE`, R445. -/
def execInputSample (s : State) : Host.Outcome State Fault Refusal := whileLive sampleInput s

end Sys2Proof.Machine
end

