-- ==== Sys2Proof/Machine/Bus.lean ====
section
/-! DEFINITION. `BUS.RD` and `BUS.WR` for any address (R121, R122), the mapper contract (R140 to R143), and the rows that
belong to the bus or to the mapper as a whole. -/

namespace Sys2Proof.Machine

/-! ## Contract of the active mapper (R140) -/

/-- `bus.mapper.read(a)` (R129). -/
def mapperRead (addr : Addr) (s : State) : Byte × State :=
  match s.bus.mapper with
  | .unknown => unknownRead addr () s
  | .std m => stdRead addr m s
  | .fa m => faRead addr m s
  | .f0 bank => f0Read addr bank s
  | .e0 m => e0Read addr m s
  | .m3f bank => m3fRead addr bank s
  | .fe bank => feRead addr bank s
  | .e7 m => e7Read addr m s
  | .dpc m => dpcRead addr m s
  | .ar66 m => arRead addr m s
  | .c0 ram => c0Read addr ram s

/-- `bus.mapper.write(a, d)` (R129). -/
def mapperWrite (addr : Addr) (d : Byte) (s : State) : State :=
  match s.bus.mapper with
  | .unknown => s
  | .std m => stdWrite addr d m s
  | .fa m => faWrite addr d m s
  | .f0 bank => f0Write addr d bank s
  | .e0 m => e0Write addr d m s
  | .m3f _ => s
  | .fe _ => s
  | .e7 m => e7Write addr d m s
  | .dpc m => dpcWrite addr d m s
  | .ar66 m => arWrite addr d m s
  | .c0 ram => c0Write addr d ram s

/-- `identify()` (R141). -/
def Mapper.identify (m : Mapper) : Byte := m.tag.number

/-- `currentBank()` (R142). -/
def Mapper.currentBank : Mapper → Nat
  | .unknown => 0
  | .std m => m.bank
  | .fa m => m.bank
  | .f0 bank => bank
  | .e0 m => m.slice0
  | .m3f bank => bank
  | .fe bank => bank
  | .e7 m => m.bank
  | .dpc m => m.bank
  | .ar66 m => arConfig m.ctrl
  | .c0 _ => 0

/-! ## The two bus operations -/

/-- The register a read reaches (R121, R124). -/
def serveRead (addr : Addr) (s : State) : Byte × State :=
  match region addr with
  | .cart => mapperRead addr s
  | .tia => tiaRead addr s
  | .ram => rdRam addr s
  | .io => ioRead addr s

/-- The register a write reaches (R122, R124). -/
def serveWrite (addr : Addr) (d : Byte) (s : State) : State :=
  match region addr with
  | .cart => mapperWrite addr d s
  | .tia => tiaWrite addr d s
  | .ram => wrRam addr d s
  | .io => ioWrite addr d s

/-- `BUS.RD(addr)`, while the run has not ended (R121). -/
def busRead (addr : Addr) (s : State) : State := closeRead addr (serveRead addr (opened addr .rd s))

/-- `BUS.WR(addr, d)`, while the run has not ended (R122). -/
def busWrite (addr : Addr) (d : Byte) (s : State) : State := closeWrite addr (serveWrite addr d (opened addr (.wr d) s))

/-- A bus transaction of either kind, while the run has not ended. -/
def busTransaction (addr : Addr) (acc : Access) (s : State) : State :=
  match acc with
  | .rd => busRead addr s
  | .wr d => busWrite addr d s

/-! ## Mapper tick (R143) -/

/-- The tick of a variant, the other fields of the bus being read only (R143, R184, R209, R232). -/
def Bus.tickedMapper (b : Bus) : Mapper :=
  match b.mapper with
  | .fe bank => .fe (feNext b.lastReadAddr bank)
  | .dpc m => .dpc m.tick
  | .ar66 m => .ar66 (m.tick b.lastAccessAddr)
  | m => m

/-- `MAPPER.TICK` (R143). -/
def mapperTick (s : State) : State := s.setMapper s.bus.tickedMapper

/-- An event of one variant: refused unless that variant is active. -/
def variantEvent {α : Type} (pick : Mapper → Option α) (f : α → State → State) (s : State) :
    Host.Outcome State Fault Refusal :=
  if s.ended then .fault .stuckAfterFatal
  else
    match pick s.bus.mapper with
    | none => .refused .variantNotActive
    | some m => .next ((f m s).answer .none)

/-! ## Mapper initialisation (R145) -/

/-- `MAPPER.INIT`: only "66" has a non-empty `initialize` (R145). -/
def mapperInit (s : State) : State :=
  match s.bus.mapper with
  | .ar66 _ => arInitialize s
  | _ => s

/-! ## Rows -/

/-- `3F.BANK`, R177: the snoop hook switches the bank, and the write reaches the TIA register too (R122). -/
def execM3fBank (addr : Addr) (d : Byte) (s : State) : Host.Outcome State Fault Refusal :=
  cartWrite pick3F addr d (fun _ t => tiaWrite addr d t) s

/-- `MAPPER.RESOLVE`, R146. -/
def execMapperResolve (addr : Addr) (isWrite : Bool) (s : State) : Host.Outcome State Fault Refusal :=
  whileLive (resolve addr isWrite) s

/-- `MAPPER.INIT`, R145. -/
def execMapperInit (s : State) : Host.Outcome State Fault Refusal := whileLive mapperInit s

/-- `AR66.initialize`, R236. -/
def execAr66Initialize (s : State) : Host.Outcome State Fault Refusal := variantEvent pickAr (fun _ t => arInitialize t) s

/-- `MAPPER.TICK`, R143. -/
def execMapperTick (s : State) : Host.Outcome State Fault Refusal := whileLive mapperTick s

/-- `FE.TICK`, R184. -/
def execFeTick (s : State) : Host.Outcome State Fault Refusal :=
  variantEvent pickFe (fun bank t => t.setMapper (.fe (feNext t.bus.lastReadAddr bank))) s

/-- `DPC.TICK`, R209. -/
def execDpcTick (s : State) : Host.Outcome State Fault Refusal :=
  variantEvent pickDpc (fun m t => t.setMapper (.dpc m.tick)) s

/-- `AR.TICK`, R232. -/
def execArTick (s : State) : Host.Outcome State Fault Refusal :=
  variantEvent pickAr (fun m t => t.setMapper (.ar66 (m.tick t.bus.lastAccessAddr))) s

end Sys2Proof.Machine
end

