-- ==== Sys2Proof/Machine/HostOps.lean ====
section
/-! DEFINITION. The host operations (R460 to R470), snapshots (R466, R467) and power-on (R144, R510). -/

namespace Sys2Proof.Machine

/-! ## Queries and input (R460 to R463) -/

/-- `FRAMEREADY?`, R460: clears the flag on read. -/
def execFrameReady (s : State) : Host.Outcome State Fault Refusal :=
  .next ((s.setTia { s.tia with frameReady := false }).answer (.flag s.tia.frameReady))

/-- `READFB`, R461. -/
def execReadFb (s : State) : Host.Outcome State Fault Refusal := .next (s.answer (.framebuffer s.tia.fb))

/-- The bytes `READSOUND n` returns: whole frames only (R462). -/
def soundCount (n : Nat) (s : State) : Nat := 4 * (min n s.apu.buf.length / 4)

/-- `READSOUND`, R462. -/
def execReadSound (n : Nat) (s : State) : Host.Outcome State Fault Refusal :=
  .next ((s.setApu { s.apu with buf := s.apu.buf.drop (soundCount n s) }).answer
    (.bytes (s.apu.buf.take (soundCount n s))))

/-- `SETINPUT`, R463: refused when a paddle position is out of range (R380, U12). -/
def execSetInput (i : Input) (s : State) : Host.Outcome State Fault Refusal :=
  if i.ok then whileLive (fun t => { t with input := i }) s else .refused .paddleOutOfRange

/-! ## Snapshots (R466, R467) -/

/-- The logical content of the saved state (R466). -/
def saved (s : State) : Snapshot where
  version := Config.snapVersion
  ident := Config.snapIdent
  cycles := s.cycles
  ram := s.bus.ram
  lastReadAddr := s.bus.lastReadAddr
  lastWriteAddr := s.bus.lastWriteAddr
  lastAccessAddr := s.bus.lastAccessAddr
  timer := s.timer
  tia := s.tia
  apu := s.apu
  io := s.io
  input := s.input
  fatal := s.fatal
  anomalies := s.anomalies
  tvFormat := s.tvFormat
  mode0 := s.mode0
  mode1 := s.mode1
  mapper := .variant s.bus.mapper

/-- `SNAPSHOT.SAVE`, R466: changes no state. -/
def execSnapshotSave (s : State) : Host.Outcome State Fault Refusal := .next (s.answer (.snapshot (saved s)))

/-- A snapshot of this version or migrated to it; none is the "unknown version" failure (R467; log entry 15). -/
def currentSnapshot (snap : Snapshot) : Option Snapshot :=
  if snap.version = Config.snapVersion then some snap else Config.migrate snap

/-- The new state: every field the saved one, with this image. The model's own fields and what power-on handed the core
are not in a snapshot and stay (R467; log entries 13, 14). -/
def restored (snap : Snapshot) (m : Mapper) (image : Image) (s : State) : State :=
  { s with
    cycles := snap.cycles
    bus := ⟨snap.ram, m, snap.lastReadAddr, snap.lastWriteAddr, snap.lastAccessAddr⟩
    timer := snap.timer
    tia := snap.tia
    apu := snap.apu
    io := snap.io
    input := snap.input
    fatal := snap.fatal
    anomalies := snap.anomalies
    image := image
    tvFormat := snap.tvFormat
    mode0 := snap.mode0
    mode1 := snap.mode1 }

/-- `SNAPSHOT.LOAD` of a snapshot of the current version: the tag is checked (R467). -/
def loadCurrent (snap : Snapshot) (image : Image) (s : State) : State :=
  match snap.mapper with
  | .unknownTag t => s.answer (.loadFailed .unknownMapperTag t.val.toNat)
  | .variant m => (restored snap m image s).answer .loaded

/-- `SNAPSHOT.LOAD(snap, image)`: version first, then tag; a failure changes nothing but the answer (R467, R483). Nothing
else is checked, whatever the snapshot and the image hold (log entry 26). -/
def loadSnapshot (snap : Snapshot) (image : Image) (s : State) : State :=
  if Config.snapVersion < snap.version then s.answer (.loadFailed .futureVersion snap.version)
  else
    match currentSnapshot snap with
    | none => s.answer (.loadFailed .unknownVersion snap.version)
    | some t => loadCurrent t image s

/-- `SNAPSHOT.LOAD`, R467. -/
def execSnapshotLoad (snap : Snapshot) (image : Image) (s : State) : Host.Outcome State Fault Refusal :=
  if s.ended then .fault .stuckAfterFatal else .next (loadSnapshot snap image s)

/-! ## Power-on (R144, R510) -/

/-- Does a variant fit an image length (R141, R482, U14)? -/
def fitsLength (v : Tag) (n : Nat) : Bool :=
  match v with
  | .unknown => decide (1 ≤ n)
  | .f8 => n == 8192
  | .f6 => n == 16384
  | .f4 => n == 32768
  | .fa => n == 12288
  | .f0 => n == 65536
  | .e0 => n == 8192
  | .m3f => n == 8192
  | .fe => n == 8192
  | .e7 => n == 16384
  | .dpc => decide (10240 ≤ n)
  | .ar66 => n == 8448
  | .c0 => n == 2048 || n == 4096

/-- The tag of an image's hash in `KNOWN_HASHES` (R144). -/
def knownTag (image : Image) : Option Tag :=
  (Config.knownHashes.find? (fun e => e.1 == Config.hashFn image)).map (fun e => e.2)

/-- The variant chosen by the image's length, once its hash is unknown; none for an unrecognized length (R144, R147). -/
def tagBySize (n : Nat) : Option Tag :=
  if n = 8448 then some .ar66
  else if n ≤ 4096 then some .unknown
  else if n = 8192 ∨ n = 12288 ∨ n = 16384 ∨ n = 32768 ∨ n = 65536 then some .unknown
  else none

/-- The variant power-on detection chooses; none where it raises `UnrecognizedCartSize` (R144, R482). -/
def detectedTag (image : Image) : Option Tag :=
  if image.size = 0 then none
  else
    match knownTag image with
    | some v => if fitsLength v image.size then some v else none
    | none => tagBySize image.size

/-- `POWERON.DETECT` (R144). -/
def detect (s : State) : State :=
  match detectedTag s.image with
  | some v => s.setMapper (fresh v)
  | none => s.raiseFatal .unrecognizedCartSize s.image.size

/-- The entry address handed to the core: the "66" variant's (R236, R447). -/
def Mapper.entryAddr : Mapper → Option (BitVec 16)
  | .ar66 m => some m.entry
  | _ => none

/-- The core is constructed with the reset flag set (R447, R510 step 4). -/
def startCore (s : State) : State := { s with coreStart := some ⟨true, s.bus.mapper.entryAddr⟩ }

/-- Every state element at its reset value, with the arguments of power-on (R510 step 1). -/
def freshState (image : Image) (format : TvFormat) (mode0 mode1 : ControllerMode) (s : State) : State :=
  { State.reset with
    image := image
    tvFormat := format
    mode0 := mode0
    mode1 := mode1
    inbox := s.inbox
    draws := s.draws }

/-- Steps 3 and 4 of `POWERON`, where detection raised nothing (R510, R490; log entry 14). -/
def finishPowerOn (s : State) : State := if s.ended then s else startCore (mapperInit s)

/-- `POWERON(image, tvFormat, controllerMode)`, R510. -/
def execPowerOn (image : Image) (format : TvFormat) (mode0 mode1 : ControllerMode) (s : State) :
    Host.Outcome State Fault Refusal :=
  .next (finishPowerOn (detect (freshState image format mode0 mode1 s)))

/-! ## TV-format classification (R470) -/

/-- The classification's loop: `run` counts consecutive frames above the threshold (R470). -/
def classifyFrom : Nat → List Int → TvFormat
  | _, [] => .ntsc
  | run, n :: rest =>
    if Config.formatThreshold < n then
      if Config.formatRun ≤ run + 1 then .pal else classifyFrom (run + 1) rest
    else classifyFrom 0 rest

/-- `FORMAT.CLASSIFY(counts)` (R470). -/
def classify (counts : List Int) : TvFormat := classifyFrom 0 counts

/-- `FORMAT.CLASSIFY`, R470. -/
def execFormatClassify (lines : List Int) (s : State) : Host.Outcome State Fault Refusal :=
  .next (s.answer (.format (classify lines)))

end Sys2Proof.Machine
end

