-- ==== Sys2Proof/Machine/Sound.lean ====
section
/-! DEFINITION. `APU.TICK` (R400 to R420): prescaler, frequency dividers, generators, mixer, samples. -/

namespace Sys2Proof.Machine

/-! ## Generators -/

/-- The kinds of generator (R402, R410). -/
inductive Kind where
  | const | poly4 | poly54 | toggle | div31 | poly5 | poly9
  deriving DecidableEq, Repr

/-- `KIND[audc]` (R410). -/
def kindOf (audc : BitVec 4) : Kind :=
  match audc.toNat with
  | 0x0 => .const
  | 0x1 => .poly4
  | 0x2 => .poly4
  | 0x3 => .poly54
  | 0x4 => .toggle
  | 0x5 => .toggle
  | 0x6 => .div31
  | 0x7 => .poly5
  | 0x8 => .poly9
  | 0x9 => .poly5
  | 0xA => .div31
  | 0xB => .const
  | 0xC => .toggle
  | 0xD => .toggle
  | 0xE => .div31
  | _ => .poly5

/-- `PRESCALE[audc]` (R410). -/
def prescaleOf (audc : BitVec 4) : Nat :=
  match audc.toNat with
  | 0x2 => 15
  | 0xC => 3
  | 0xD => 3
  | 0xE => 3
  | 0xF => 3
  | _ => 1

/-- One step of the four-bit register (R405). -/
def step4 (p : BitVec 4) : BitVec 4 := BitVec.cons (p.getLsbD 0 ^^ p.getLsbD 1) (p.extractLsb' 1 3)

/-- One step of the five-bit register (R405). -/
def step5 (p : BitVec 5) : BitVec 5 := BitVec.cons (p.getLsbD 0 ^^ p.getLsbD 2) (p.extractLsb' 1 4)

/-- One step of the nine-bit register (R405). -/
def step9 (p : BitVec 9) : BitVec 9 := BitVec.cons (p.getLsbD 0 ^^ p.getLsbD 4) (p.extractLsb' 1 8)

/-- The generator `KIND[audc]` picks makes one step (R402, R406). -/
def Channel.generate (c : Channel) : Channel :=
  match kindOf c.audc with
  | .const => { c with out := true }
  | .poly4 => { c with poly4 := step4 c.poly4, out := (step4 c.poly4).getLsbD 0 }
  | .poly54 =>
    let p4 := if (step5 c.poly5).getLsbD 0 then step4 c.poly4 else c.poly4
    { c with poly5 := step5 c.poly5, poly4 := p4, out := p4.getLsbD 0 }
  | .toggle => { c with out := !c.out }
  | .div31 =>
    let k := (c.div31 + 1) % 31
    { c with div31 := k, out := decide (k < 13) }
  | .poly5 => { c with poly5 := step5 c.poly5, out := (step5 c.poly5).getLsbD 0 }
  | .poly9 => { c with poly9 := step9 c.poly9, out := (step9 c.poly9).getLsbD 0 }

/-- `genStep(c)`, with the secondary counter (R402). -/
def Channel.genStep (c : Channel) : Channel :=
  if c.sub + 1 < prescaleOf c.audc then { c with sub := c.sub + 1 } else Channel.generate { c with sub := 0 }

/-- `channelClock(c)` (R401). -/
def Channel.clock (c : Channel) : Channel :=
  if c.audf ≤ c.divCount then Channel.genStep { c with divCount := 0 } else { c with divCount := c.divCount + 1 }

/-! ## Mixer and buffer -/

/-- A channel's contribution: generator bit times volume (R415). -/
def Channel.level (c : Channel) : Nat := if c.out then c.audv.toNat else 0

/-- `mix` (R415). -/
def Apu.mix (a : Apu) : Nat := a.ch0.level + a.ch1.level

/-- `sample(acc, n)`, rounding down (R416). -/
def sample (acc n : Nat) : Nat := acc * 32767 / (30 * n)

/-- The four bytes of a frame: left low, left high, right low, right high (R420). -/
def frameBytes (v : Nat) : List Byte :=
  [BitVec.ofNat 8 v, BitVec.ofNat 8 (v / 256), BitVec.ofNat 8 v, BitVec.ofNat 8 (v / 256)]

/-- `pushFrame(s)`: dropped whole when the buffer is full (R420). -/
def Apu.pushFrame (v : Nat) (a : Apu) : Apu :=
  if a.buf.length + 4 ≤ Config.audioBufCap then { a with buf := a.buf ++ frameBytes v } else a

/-! ## The tick -/

/-- The prescaler from processor cycles to generator clocks (R400). -/
def Apu.prescale (a : Apu) : Apu :=
  if a.clk + 1 = Config.audioClockDiv then { a with clk := 0, ch0 := a.ch0.clock, ch1 := a.ch1.clock }
  else { a with clk := a.clk + 1 }

/-- Adds the mixed value of the cycle (R400, R415). -/
def Apu.accumulate (a : Apu) : Apu := { a with acc := a.acc + a.mix, n := a.n + 1 }

/-- Emits the averaged sample and starts the next window (R400, R416, R420). -/
def Apu.emit (a : Apu) : Apu := { a.pushFrame (sample a.acc a.n) with acc := 0, n := 0 }

/-- `APU.TICK`, with `cycles` after this cycle's increment (R400). -/
def Apu.tick (fmt : TvFormat) (cycles : Nat) (a : Apu) : Apu :=
  if cycles % Config.sampleDiv fmt = 0 then a.prescale.accumulate.emit else a.prescale.accumulate

/-- `APU.TICK` on the whole state. -/
def apuTick (s : State) : State := s.setApu (s.apu.tick s.tvFormat s.cycles)

/-- `APU.TICK`, R400. -/
def execApuTick (s : State) : Host.Outcome State Fault Refusal := whileLive apuTick s

end Sys2Proof.Machine
end

