-- ==== Sys2Proof/Machine/TiaTick.lean ====
section
/-! DEFINITION. `TIA.TICK` (R320 to R342): the one-colour-clock step of the video chip, each part under its own rule. -/

namespace Sys2Proof.Machine

/-! ## Object bits -/

/-- `pfBit(x)` (R322), read from the active register. -/
def pfBit (t : Tia) (x : Int) : Bool :=
  let col := (x / 4).toNat
  if col < 20 then t.pfActive.getLsbD col
  else if t.pfReflect then t.pfActive.getLsbD (39 - col)
  else t.pfActive.getLsbD (col - 20)

/-- `ballBit(x)` (R323). -/
def ballBit (b : Ball) (x : Int) : Bool :=
  (if b.vdel then b.enOld else b.enNew) && decide (emod (x - b.pos) Config.visibleClocks < widthOf b.size)

/-- The copy offsets of `COPIES[nusiz]` (R326), which are also `MOFFSETS[nusiz]` (R328). -/
def copyOffsets (nusiz : BitVec 3) : List Int :=
  match nusiz.toNat with
  | 1 => [0, 16]
  | 2 => [0, 32]
  | 3 => [0, 16, 32]
  | 4 => [0, 64]
  | 6 => [0, 32, 64]
  | _ => [0]

/-- The `scale` of `COPIES[nusiz]`, clocks per shape pixel (R326). -/
def copyScale (nusiz : BitVec 3) : Nat :=
  match nusiz.toNat with
  | 5 => 2
  | 7 => 4
  | _ => 1

/-- Shape pixel `j` from the left (R324). -/
def shapePixel (p : Player) (j : Nat) : Bool :=
  let g := if p.vdel then p.grpOld else p.grpNew
  if p.refl then bit g j else bit g (7 - j)

/-- Does the copy at offset `o` set the pixel at `x` (R324)? -/
def copyBit (p : Player) (x o : Int) : Bool :=
  let dd := emod (x - p.pos - o) Config.visibleClocks
  decide (dd < 8 * copyScale p.nusiz) && shapePixel p (dd / copyScale p.nusiz)

/-- `playerBit(i, x)` (R324). -/
def playerBit (p : Player) (x : Int) : Bool := (copyOffsets p.nusiz).any (copyBit p x)

/-- `missileBit(i, x)`, with the repeat mode of its player (R327, R328). -/
def missileBit (m : Missile) (nusiz : BitVec 3) (x : Int) : Bool :=
  m.enabled && !m.resmp && (copyOffsets nusiz).any fun o => decide (emod (x - m.pos - o) Config.visibleClocks < widthOf m.size)

/-! ## Missile lock (R329) -/

/-- A missile's position after the lock: the middle of its player's first copy while it is hidden (R329). -/
def lockedMissile (m : Missile) (p : Player) : Missile :=
  if m.resmp then { m with pos := emod (p.pos + 4 * copyScale p.nusiz) Config.visibleClocks } else m

/-- `lockMissiles` (R329). -/
def lockMissiles (t : Tia) : Tia := { t with m0 := lockedMissile t.m0 t.p0, m1 := lockedMissile t.m1 t.p1 }

/-! ## Pixel -/

/-- The six object bits of a colour clock (R320). -/
structure Bits where
  p0 : Bool
  p1 : Bool
  m0 : Bool
  m1 : Bool
  bl : Bool
  pf : Bool
  deriving DecidableEq, Repr

/-- The six bits at `x` (R322 to R328). -/
def objectBits (t : Tia) (x : Int) : Bits where
  p0 := playerBit t.p0 x
  p1 := playerBit t.p1 x
  m0 := missileBit t.m0 t.p0.nusiz x
  m1 := missileBit t.m1 t.p1.nusiz x
  bl := ballBit t.bl x
  pf := pfBit t x

/-- `pixelColour` (R334). -/
def pixelColour (t : Tia) (x : Int) (b : Bits) : Byte :=
  if t.pfPriority then
    if b.pf || b.bl then t.colupf
    else if b.p0 || b.m0 then t.p0.colu
    else if b.p1 || b.m1 then t.p1.colu
    else t.colubk
  else if b.p0 || b.m0 then t.p0.colu
  else if b.p1 || b.m1 then t.p1.colu
  else if b.pf then
    if t.pfScore then if x < 80 then t.p0.colu else t.p1.colu
    else t.colupf
  else if b.bl then t.colupf
  else t.colubk

/-- `blanked(x)` (R335). -/
def blanked (t : Tia) (x : Int) : Bool := t.vblankBlank || (t.comb && decide (x < Config.combWidth))

/-- The bytes of an unblanked pixel: alpha is 0xFF (R336). -/
def shown (c : Config.Rgb) : Config.Rgba := ⟨c.r, c.g, c.b, 0xFF⟩

/-- The bytes of a pixel: `BLANK_RGBA`, or the palette's entry (R335, R336). -/
def pixelRgba (fmt : TvFormat) (t : Tia) (x : Int) (b : Bits) : Config.Rgba :=
  if blanked t x then Config.blankRgba else shown (Config.palette fmt (colourCode (pixelColour t x b)))

/-- The first byte of pixel `(y, x)` (R24). -/
def pixelOffset (y x : Nat) : Nat := 4 * (y * Config.fbW + x)

/-- The four bytes of a pixel are stored (R24, R336). -/
def Mem.writePixel (fb : Mem) (o : Nat) (c : Config.Rgba) : Mem :=
  (((fb.write o c.r).write (o + 1) c.g).write (o + 2) c.b).write (o + 3) c.a

/-- `fbWrite(y, x, v)` (R336): lines outside `0 <= y < FB_H` are not stored. -/
def fbWrite (fb : Mem) (y x : Int) (c : Config.Rgba) : Mem :=
  if 0 ≤ y ∧ y < Config.fbH then fb.writePixel (pixelOffset y.toNat x.toNat) c else fb

/-- A visible colour clock: collisions and the pixel (R320, R333 to R336). -/
def visibleClock (fmt : TvFormat) (t : Tia) : Tia :=
  let b := objectBits t t.x
  { t with
    cx := t.cx.accumulate b.p0 b.p1 b.m0 b.m1 b.bl b.pf
    fb := fbWrite t.fb t.y t.x (pixelRgba fmt t t.x b) }

/-! ## Latch, motion, wrap -/

/-- The playfield latch (R338). -/
def latchPlayfield (t : Tia) : Tia := if emod t.x 4 = Config.pfLatchPhase then { t with pfActive := t.pfToLoad } else t

/-- A position moved by its motion value (R341). -/
def movedPos (pos : Nat) (hm : BitVec 4) (extra : Nat) : Nat := emod (pos - sext4 hm - extra) Config.visibleClocks

/-- The extra clocks of a late request (R341). -/
def motionExtra (t : Tia) : Nat := if t.hmoveLate then Config.hmoveLateOffset else 0

/-- All five objects move on one request (R341). -/
def moveObjects (t : Tia) : Tia :=
  { t with
    p0 := { t.p0 with pos := movedPos t.p0.pos t.p0.hm (motionExtra t) }
    p1 := { t.p1 with pos := movedPos t.p1.pos t.p1.hm (motionExtra t) }
    m0 := { t.m0 with pos := movedPos t.m0.pos t.m0.hm (motionExtra t) }
    m1 := { t.m1 with pos := movedPos t.m1.pos t.m1.hm (motionExtra t) }
    bl := { t.bl with pos := movedPos t.bl.pos t.bl.hm (motionExtra t) }
    comb := t.hmoveLate }

/-- `applyMotion` (R341, R342). -/
def applyMotion (t : Tia) : Tia :=
  { (if t.hmovePending then moveObjects t else { t with comb := false }) with hmovePending := false, hmoveLate := false }

/-- `wrap` (R340). -/
def wrapLine (t : Tia) : Tia := applyMotion { t with x := -Config.hblankClocks, y := min (t.y + 1) Config.yMax, waitHBlank := false }

/-- The advance, and the wrap at `VISIBLE_CLOCKS` (R339, R340). -/
def advance (t : Tia) : Tia := if t.x + 1 = Config.visibleClocks then wrapLine t else { t with x := t.x + 1 }

/-! ## The step -/

/-- `TIA.TICK` (R320, R321). -/
def Tia.tick (fmt : TvFormat) (t : Tia) : Tia :=
  let locked := lockMissiles t
  advance (latchPlayfield (if 0 ≤ t.x then visibleClock fmt locked else locked))

/-- `TIA.TICK` on the whole state. -/
def tiaTick (s : State) : State := s.setTia (s.tia.tick s.tvFormat)

/-- `n` colour clocks. -/
def tiaTicks : Nat → State → State
  | 0, s => s
  | n + 1, s => tiaTicks n (tiaTick s)

/-- `TIA.TICK`, R320. -/
def execTiaTick (s : State) : Host.Outcome State Fault Refusal := whileLive tiaTick s

end Sys2Proof.Machine
end

