-- ==== Sys2Proof/Machine/Scheduler.lean ====
section
/-! DEFINITION. The scheduler (R440 to R447): `CYCLE`, `RUN`, the stall and `STEP`. -/

namespace Sys2Proof.Machine

/-! ## Cycles -/

/-- `cycles <- cycles + 1` (R443). -/
def countCycle (s : State) : State := { s with cycles := s.cycles + 1 }

/-- `CYCLE`: one timer tick, one mapper tick, `CLOCKS_PER_CYCLE` colour clocks, one mixer tick, in this order (R443). -/
def cycleOnce (s : State) : State :=
  apuTick (tiaTicks Config.clocksPerCycle (mapperTick (timerTick (countCycle s))))

/-- `n` cycles (R442). -/
def cycleTimes : Nat → State → State
  | 0, s => s
  | n + 1, s => cycleTimes n (cycleOnce s)

/-- `RUN n` (R442). -/
def runCycles (n : Nat) (s : State) : State := sampleInput (cycleTimes n s)

/-! ## Instructions of the core (R440) -/

/-- The events of one instruction in the core's own order; `read` collects the bytes read, the last one first (R4,
R440). -/
def runEvents : List CoreEvent → List Byte → State → List Byte × State
  | [], seen, s => (seen, s)
  | .rd addr :: rest, seen, s =>
    let r := serveRead addr (opened addr .rd s)
    runEvents rest (r.1 :: seen) (closeRead addr r)
  | .wr addr d :: rest, seen, s => runEvents rest seen (busWrite addr d s)
  | .run n :: rest, seen, s => runEvents rest seen ((runCycles n s).answer .none)

/-- A step that is not stalled: the bytes the instruction read are the answer, in order (R440; log entry 12). -/
def runInstruction (events : List CoreEvent) (s : State) : State :=
  let r := runEvents events [] s
  r.2.answer (.bytes r.1.reverse)

/-! ## Rows -/

/-- `CYCLE`, R443. -/
def execCycle (s : State) : Host.Outcome State Fault Refusal := whileLive cycleOnce s

/-- `RUN`, R442. -/
def execRun (n : Nat) (s : State) : Host.Outcome State Fault Refusal := whileLive (runCycles n) s

/-- `STEP`, R440: on a fatal state it does nothing; stalled, it is exactly `RUN 1` (R441) and the core is not called. -/
def execStep (events : List CoreEvent) (s : State) : Host.Outcome State Fault Refusal :=
  if s.ended then .next s
  else if s.tia.waitHBlank then .next ((runCycles 1 s).answer .none)
  else .next (runInstruction events s)

end Sys2Proof.Machine
end

