-- ==== Sys2Proof/Syntax.lean ====
section
/-! DEFINITION. The operations of the block: one constructor per row of the opcode table (R8, R94 to R98).

The operand `addr` of a bus operation is the whole 16-bit callback address (R61), of which the low 13 bits are decoded;
`d` is the data byte of a write; `acc` stands in the rows that serve a read and a write alike. Which addresses and which
active variant belong to a row is checked in WellFormed.lean. -/

namespace Sys2Proof

open Sys2Proof.Machine

/-- One operation of the block (R8). -/
inductive Instr where
  /-- `VSYNC`, TIAW, R242. -/
  | vsync (addr : Addr) (d : Byte)
  /-- `VBLANK`, TIAW, R243. -/
  | vblank (addr : Addr) (d : Byte)
  /-- `WSYNC`, TIAW, R244. -/
  | wsync (addr : Addr) (d : Byte)
  /-- `RSYNC`, TIAW, R245. -/
  | rsync (addr : Addr) (d : Byte)
  /-- `NUSIZ0`, TIAW, R246. -/
  | nusiz0 (addr : Addr) (d : Byte)
  /-- `NUSIZ1`, TIAW, R247. -/
  | nusiz1 (addr : Addr) (d : Byte)
  /-- `COLUP0`, TIAW, R248. -/
  | colup0 (addr : Addr) (d : Byte)
  /-- `COLUP1`, TIAW, R249. -/
  | colup1 (addr : Addr) (d : Byte)
  /-- `COLUPF`, TIAW, R250. -/
  | colupf (addr : Addr) (d : Byte)
  /-- `COLUBK`, TIAW, R251. -/
  | colubk (addr : Addr) (d : Byte)
  /-- `CTRLPF`, TIAW, R252. -/
  | ctrlpf (addr : Addr) (d : Byte)
  /-- `REFP0`, TIAW, R253. -/
  | refp0 (addr : Addr) (d : Byte)
  /-- `REFP1`, TIAW, R254. -/
  | refp1 (addr : Addr) (d : Byte)
  /-- `PF0`, TIAW, R255. -/
  | pf0 (addr : Addr) (d : Byte)
  /-- `PF1`, TIAW, R256. -/
  | pf1 (addr : Addr) (d : Byte)
  /-- `PF2`, TIAW, R257. -/
  | pf2 (addr : Addr) (d : Byte)
  /-- `RESP0`, TIAW, R258. -/
  | resp0 (addr : Addr) (d : Byte)
  /-- `RESP1`, TIAW, R259. -/
  | resp1 (addr : Addr) (d : Byte)
  /-- `RESM0`, TIAW, R260. -/
  | resm0 (addr : Addr) (d : Byte)
  /-- `RESM1`, TIAW, R261. -/
  | resm1 (addr : Addr) (d : Byte)
  /-- `RESBL`, TIAW, R262. -/
  | resbl (addr : Addr) (d : Byte)
  /-- `AUDC0`, TIAW, R263. -/
  | audc0 (addr : Addr) (d : Byte)
  /-- `AUDC1`, TIAW, R264. -/
  | audc1 (addr : Addr) (d : Byte)
  /-- `AUDF0`, TIAW, R265. -/
  | audf0 (addr : Addr) (d : Byte)
  /-- `AUDF1`, TIAW, R266. -/
  | audf1 (addr : Addr) (d : Byte)
  /-- `AUDV0`, TIAW, R267. -/
  | audv0 (addr : Addr) (d : Byte)
  /-- `AUDV1`, TIAW, R268. -/
  | audv1 (addr : Addr) (d : Byte)
  /-- `GRP0`, TIAW, R269. -/
  | grp0 (addr : Addr) (d : Byte)
  /-- `GRP1`, TIAW, R270. -/
  | grp1 (addr : Addr) (d : Byte)
  /-- `ENAM0`, TIAW, R271. -/
  | enam0 (addr : Addr) (d : Byte)
  /-- `ENAM1`, TIAW, R272. -/
  | enam1 (addr : Addr) (d : Byte)
  /-- `ENABL`, TIAW, R273. -/
  | enabl (addr : Addr) (d : Byte)
  /-- `HMP0`, TIAW, R274. -/
  | hmp0 (addr : Addr) (d : Byte)
  /-- `HMP1`, TIAW, R275. -/
  | hmp1 (addr : Addr) (d : Byte)
  /-- `HMM0`, TIAW, R276. -/
  | hmm0 (addr : Addr) (d : Byte)
  /-- `HMM1`, TIAW, R277. -/
  | hmm1 (addr : Addr) (d : Byte)
  /-- `HMBL`, TIAW, R278. -/
  | hmbl (addr : Addr) (d : Byte)
  /-- `VDELP0`, TIAW, R279. -/
  | vdelp0 (addr : Addr) (d : Byte)
  /-- `VDELP1`, TIAW, R280. -/
  | vdelp1 (addr : Addr) (d : Byte)
  /-- `VDELBL`, TIAW, R281. -/
  | vdelbl (addr : Addr) (d : Byte)
  /-- `RESMP0`, TIAW, R282. -/
  | resmp0 (addr : Addr) (d : Byte)
  /-- `RESMP1`, TIAW, R283. -/
  | resmp1 (addr : Addr) (d : Byte)
  /-- `HMOVE`, TIAW, R284. -/
  | hmove (addr : Addr) (d : Byte)
  /-- `HMCLR`, TIAW, R285. -/
  | hmclr (addr : Addr) (d : Byte)
  /-- `CXCLR`, TIAW, R286. -/
  | cxclr (addr : Addr) (d : Byte)
  /-- `TIAW.UNASSIGNED_2D`, TIAW, R287. -/
  | tiaw2D (addr : Addr) (d : Byte)
  /-- `TIAW.UNASSIGNED_2E`, TIAW, R287. -/
  | tiaw2E (addr : Addr) (d : Byte)
  /-- `TIAW.UNASSIGNED_2F`, TIAW, R287. -/
  | tiaw2F (addr : Addr) (d : Byte)
  /-- `TIAW.UNASSIGNED_30`, TIAW, R287. -/
  | tiaw30 (addr : Addr) (d : Byte)
  /-- `TIAW.UNASSIGNED_31`, TIAW, R287. -/
  | tiaw31 (addr : Addr) (d : Byte)
  /-- `TIAW.UNASSIGNED_32`, TIAW, R287. -/
  | tiaw32 (addr : Addr) (d : Byte)
  /-- `TIAW.UNASSIGNED_33`, TIAW, R287. -/
  | tiaw33 (addr : Addr) (d : Byte)
  /-- `TIAW.UNASSIGNED_34`, TIAW, R287. -/
  | tiaw34 (addr : Addr) (d : Byte)
  /-- `TIAW.UNASSIGNED_35`, TIAW, R287. -/
  | tiaw35 (addr : Addr) (d : Byte)
  /-- `TIAW.UNASSIGNED_36`, TIAW, R287. -/
  | tiaw36 (addr : Addr) (d : Byte)
  /-- `TIAW.UNASSIGNED_37`, TIAW, R287. -/
  | tiaw37 (addr : Addr) (d : Byte)
  /-- `TIAW.UNASSIGNED_38`, TIAW, R287. -/
  | tiaw38 (addr : Addr) (d : Byte)
  /-- `TIAW.UNASSIGNED_39`, TIAW, R287. -/
  | tiaw39 (addr : Addr) (d : Byte)
  /-- `TIAW.UNASSIGNED_3A`, TIAW, R287. -/
  | tiaw3A (addr : Addr) (d : Byte)
  /-- `TIAW.UNASSIGNED_3B`, TIAW, R287. -/
  | tiaw3B (addr : Addr) (d : Byte)
  /-- `TIAW.UNASSIGNED_3C`, TIAW, R287. -/
  | tiaw3C (addr : Addr) (d : Byte)
  /-- `TIAW.UNASSIGNED_3D`, TIAW, R287. -/
  | tiaw3D (addr : Addr) (d : Byte)
  /-- `TIAW.UNASSIGNED_3E`, TIAW, R287. -/
  | tiaw3E (addr : Addr) (d : Byte)
  /-- `TIAW.UNASSIGNED_3F`, TIAW, R287. -/
  | tiaw3F (addr : Addr) (d : Byte)
  /-- `CXM0P`, TIAR, R290. -/
  | cxm0p (addr : Addr)
  /-- `CXM1P`, TIAR, R291. -/
  | cxm1p (addr : Addr)
  /-- `CXP0FB`, TIAR, R292. -/
  | cxp0fb (addr : Addr)
  /-- `CXP1FB`, TIAR, R293. -/
  | cxp1fb (addr : Addr)
  /-- `CXM0FB`, TIAR, R294. -/
  | cxm0fb (addr : Addr)
  /-- `CXM1FB`, TIAR, R295. -/
  | cxm1fb (addr : Addr)
  /-- `CXBLPF`, TIAR, R296. -/
  | cxblpf (addr : Addr)
  /-- `CXPPMM`, TIAR, R297. -/
  | cxppmm (addr : Addr)
  /-- `INPT0`, TIAR, R298. -/
  | inpt0 (addr : Addr)
  /-- `INPT1`, TIAR, R299. -/
  | inpt1 (addr : Addr)
  /-- `INPT2`, TIAR, R300. -/
  | inpt2 (addr : Addr)
  /-- `INPT3`, TIAR, R301. -/
  | inpt3 (addr : Addr)
  /-- `INPT4`, TIAR, R302. -/
  | inpt4 (addr : Addr)
  /-- `INPT5`, TIAR, R303. -/
  | inpt5 (addr : Addr)
  /-- `TIAR.UNASSIGNED_E`, TIAR, R304. -/
  | tiarE (addr : Addr)
  /-- `TIAR.UNASSIGNED_F`, TIAR, R304. -/
  | tiarF (addr : Addr)
  /-- `RAM.RD`, RAM, R125. -/
  | ramRd (addr : Addr)
  /-- `RAM.WR`, RAM, R126. -/
  | ramWr (addr : Addr) (d : Byte)
  /-- `SWCHA.RD`, IOP, R361. -/
  | swchaRd (addr : Addr)
  /-- `SWCHA.WR`, IOP, R362. -/
  | swchaWr (addr : Addr) (d : Byte)
  /-- `SWACNT.RD`, IOP, R363. -/
  | swacntRd (addr : Addr)
  /-- `SWACNT.WR`, IOP, R364. -/
  | swacntWr (addr : Addr) (d : Byte)
  /-- `SWCHB.RD`, IOP, R365. -/
  | swchbRd (addr : Addr)
  /-- `SWCHB.WR`, IOP, R368. -/
  | swchbWr (addr : Addr) (d : Byte)
  /-- `SWBCNT.RD`, IOP, R369. -/
  | swbcntRd (addr : Addr)
  /-- `SWBCNT.WR`, IOP, R370. -/
  | swbcntWr (addr : Addr) (d : Byte)
  /-- `INTIM`, TMRR, R366. -/
  | intim (addr : Addr)
  /-- `TIMINT`, TMRR, R367. -/
  | timint (addr : Addr)
  /-- `TIM1T`, TMRW, R371. -/
  | tim1t (addr : Addr) (d : Byte)
  /-- `TIM8T`, TMRW, R372. -/
  | tim8t (addr : Addr) (d : Byte)
  /-- `TIM64T`, TMRW, R373. -/
  | tim64t (addr : Addr) (d : Byte)
  /-- `T1024T`, TMRW, R374. -/
  | t1024t (addr : Addr) (d : Byte)
  /-- `EDGECTL`, TMRW, R375. -/
  | edgectl (addr : Addr) (d : Byte)
  /-- `UNK.ROM`, CART.Unknown, 0x1000..0x1FFF, R149. -/
  | unkRom (addr : Addr)
  /-- `UNK.WR`, CART.Unknown, 0x1000..0x1FFF, R150. -/
  | unkWr (addr : Addr) (d : Byte)
  /-- `F8.BANK0`, CART.F8, 0x1FF8, R152. -/
  | f8Bank0 (addr : Addr) (acc : Access)
  /-- `F8.BANK1`, CART.F8, 0x1FF9, R152. -/
  | f8Bank1 (addr : Addr) (acc : Access)
  /-- `STD.SCW`, CART.F8, 0x1000..0x107F, R154. -/
  | f8Scw (addr : Addr) (d : Byte)
  /-- `STD.SCR`, CART.F8, 0x1080..0x10FF, R155. -/
  | f8Scr (addr : Addr)
  /-- `STD.ROM`, CART.F8, 0x1000..0x1FFF outside active windows, R153. -/
  | f8Rom (addr : Addr)
  /-- `STD.WR`, CART.F8, 0x1080..0x1FFF, R156. -/
  | f8Wr (addr : Addr) (d : Byte)
  /-- `F6.BANK0`, CART.F6, 0x1FF6, R152. -/
  | f6Bank0 (addr : Addr) (acc : Access)
  /-- `F6.BANK1`, CART.F6, 0x1FF7, R152. -/
  | f6Bank1 (addr : Addr) (acc : Access)
  /-- `F6.BANK2`, CART.F6, 0x1FF8, R152. -/
  | f6Bank2 (addr : Addr) (acc : Access)
  /-- `F6.BANK3`, CART.F6, 0x1FF9, R152. -/
  | f6Bank3 (addr : Addr) (acc : Access)
  /-- `STD.SCW`, CART.F6, 0x1000..0x107F, R154. -/
  | f6Scw (addr : Addr) (d : Byte)
  /-- `STD.SCR`, CART.F6, 0x1080..0x10FF, R155. -/
  | f6Scr (addr : Addr)
  /-- `STD.ROM`, CART.F6, 0x1000..0x1FFF outside active windows, R153. -/
  | f6Rom (addr : Addr)
  /-- `STD.WR`, CART.F6, 0x1080..0x1FFF, R156. -/
  | f6Wr (addr : Addr) (d : Byte)
  /-- `F4.BANK0`, CART.F4, 0x1FF4, R152. -/
  | f4Bank0 (addr : Addr) (acc : Access)
  /-- `F4.BANK1`, CART.F4, 0x1FF5, R152. -/
  | f4Bank1 (addr : Addr) (acc : Access)
  /-- `F4.BANK2`, CART.F4, 0x1FF6, R152. -/
  | f4Bank2 (addr : Addr) (acc : Access)
  /-- `F4.BANK3`, CART.F4, 0x1FF7, R152. -/
  | f4Bank3 (addr : Addr) (acc : Access)
  /-- `F4.BANK4`, CART.F4, 0x1FF8, R152. -/
  | f4Bank4 (addr : Addr) (acc : Access)
  /-- `F4.BANK5`, CART.F4, 0x1FF9, R152. -/
  | f4Bank5 (addr : Addr) (acc : Access)
  /-- `F4.BANK6`, CART.F4, 0x1FFA, R152. -/
  | f4Bank6 (addr : Addr) (acc : Access)
  /-- `F4.BANK7`, CART.F4, 0x1FFB, R152. -/
  | f4Bank7 (addr : Addr) (acc : Access)
  /-- `STD.SCW`, CART.F4, 0x1000..0x107F, R154. -/
  | f4Scw (addr : Addr) (d : Byte)
  /-- `STD.SCR`, CART.F4, 0x1080..0x10FF, R155. -/
  | f4Scr (addr : Addr)
  /-- `STD.ROM`, CART.F4, 0x1000..0x1FFF outside active windows, R153. -/
  | f4Rom (addr : Addr)
  /-- `STD.WR`, CART.F4, 0x1080..0x1FFF, R156. -/
  | f4Wr (addr : Addr) (d : Byte)
  /-- `FA.BANK0`, CART.FA, 0x1FF8, R160. -/
  | faBank0 (addr : Addr) (acc : Access)
  /-- `FA.BANK1`, CART.FA, 0x1FF9, R160. -/
  | faBank1 (addr : Addr) (acc : Access)
  /-- `FA.BANK2`, CART.FA, 0x1FFA, R160. -/
  | faBank2 (addr : Addr) (acc : Access)
  /-- `FA.RAMW`, CART.FA, 0x1000..0x10FF, R161. -/
  | faRamw (addr : Addr) (acc : Access)
  /-- `FA.RAMR`, CART.FA, 0x1100..0x11FF, R162. -/
  | faRamr (addr : Addr) (acc : Access)
  /-- `FA.ROM`, CART.FA, 0x1200..0x1FFF, R163. -/
  | faRom (addr : Addr) (acc : Access)
  /-- `F0.NEXT`, CART.F0, 0x1FF0, R165. -/
  | f0Next (addr : Addr) (acc : Access)
  /-- `F0.ROM`, CART.F0, 0x1000..0x1FFF, R166. -/
  | f0Rom (addr : Addr) (acc : Access)
  /-- `E0.S0`, CART.E0, 0x1FE0..0x1FE7, R170. -/
  | e0S0 (addr : Addr) (acc : Access)
  /-- `E0.S1`, CART.E0, 0x1FE8..0x1FEF, R170. -/
  | e0S1 (addr : Addr) (acc : Access)
  /-- `E0.S2`, CART.E0, 0x1FF0..0x1FF7, R170. -/
  | e0S2 (addr : Addr) (acc : Access)
  /-- `E0.ROM`, CART.E0, 0x1000..0x1FFF, R171. -/
  | e0Rom (addr : Addr) (acc : Access)
  /-- `3F.BANK`, SNOOP.3F, 0x0000..0x003F (13-bit address, any region), R177. -/
  | m3fBank (addr : Addr) (d : Byte)
  /-- `3F.ROM`, CART.3F, 0x1000..0x1FFF, R178. -/
  | m3fRom (addr : Addr) (acc : Access)
  /-- `FE.ROM`, CART.FE, 0x1000..0x1FFF, R183. -/
  | feRom (addr : Addr) (acc : Access)
  /-- `C0.RAMR`, CART.C0, 0x1000..0x13FF, R187. -/
  | c0Ramr (addr : Addr) (acc : Access)
  /-- `C0.RAMW`, CART.C0, 0x1400..0x17FF, R188. -/
  | c0Ramw (addr : Addr) (acc : Access)
  /-- `C0.ROM`, CART.C0, 0x1800..0x1FFF, R189. -/
  | c0Rom (addr : Addr) (acc : Access)
  /-- `E7.BANK0`, CART.E7, 0x1FE0, R193. -/
  | e7Bank0 (addr : Addr) (acc : Access)
  /-- `E7.BANK1`, CART.E7, 0x1FE1, R193. -/
  | e7Bank1 (addr : Addr) (acc : Access)
  /-- `E7.BANK2`, CART.E7, 0x1FE2, R193. -/
  | e7Bank2 (addr : Addr) (acc : Access)
  /-- `E7.BANK3`, CART.E7, 0x1FE3, R193. -/
  | e7Bank3 (addr : Addr) (acc : Access)
  /-- `E7.BANK4`, CART.E7, 0x1FE4, R193. -/
  | e7Bank4 (addr : Addr) (acc : Access)
  /-- `E7.BANK5`, CART.E7, 0x1FE5, R193. -/
  | e7Bank5 (addr : Addr) (acc : Access)
  /-- `E7.BANK6`, CART.E7, 0x1FE6, R193. -/
  | e7Bank6 (addr : Addr) (acc : Access)
  /-- `E7.RAMON`, CART.E7, 0x1FE7, R193. -/
  | e7Ramon (addr : Addr) (acc : Access)
  /-- `E7.RBANK0`, CART.E7, 0x1FE8, R193. -/
  | e7Rbank0 (addr : Addr) (acc : Access)
  /-- `E7.RBANK1`, CART.E7, 0x1FE9, R193. -/
  | e7Rbank1 (addr : Addr) (acc : Access)
  /-- `E7.RBANK2`, CART.E7, 0x1FEA, R193. -/
  | e7Rbank2 (addr : Addr) (acc : Access)
  /-- `E7.RBANK3`, CART.E7, 0x1FEB, R193. -/
  | e7Rbank3 (addr : Addr) (acc : Access)
  /-- `E7.LOW.RD`, CART.E7, 0x1000..0x17FF, R194. -/
  | e7LowRd (addr : Addr)
  /-- `E7.LOW.WR`, CART.E7, 0x1000..0x17FF, R195. -/
  | e7LowWr (addr : Addr) (d : Byte)
  /-- `E7.R256W`, CART.E7, 0x1800..0x18FF, R196. -/
  | e7R256w (addr : Addr) (acc : Access)
  /-- `E7.R256R`, CART.E7, 0x1900..0x19FF, R196. -/
  | e7R256r (addr : Addr) (acc : Access)
  /-- `E7.FIXED`, CART.E7, 0x1A00..0x1FFF, R197. -/
  | e7Fixed (addr : Addr) (acc : Access)
  /-- `DPC.BANK0`, CART.DC, 0x1FF8, R205. -/
  | dpcBank0 (addr : Addr) (acc : Access)
  /-- `DPC.BANK1`, CART.DC, 0x1FF9, R205. -/
  | dpcBank1 (addr : Addr) (acc : Access)
  /-- `DPC.ROM`, CART.DC, 0x1080..0x1FFF, R206. -/
  | dpcRom (addr : Addr) (acc : Access)
  /-- `DPC.RD.RNG`, CART.DC, 0x1000..0x1003, R211. -/
  | dpcRdRng (addr : Addr)
  /-- `DPC.RD.MUSIC`, CART.DC, 0x1004..0x1007, R211. -/
  | dpcRdMusic (addr : Addr)
  /-- `DPC.RD.DATA`, CART.DC, 0x1008..0x100F, R212. -/
  | dpcRdData (addr : Addr)
  /-- `DPC.RD.GATED`, CART.DC, 0x1010..0x1017, R212. -/
  | dpcRdGated (addr : Addr)
  /-- `DPC.RD.SWAP`, CART.DC, 0x1018..0x101F, R212. -/
  | dpcRdSwap (addr : Addr)
  /-- `DPC.RD.REV`, CART.DC, 0x1020..0x1027, R212. -/
  | dpcRdRev (addr : Addr)
  /-- `DPC.RD.ROR`, CART.DC, 0x1028..0x102F, R212. -/
  | dpcRdRor (addr : Addr)
  /-- `DPC.RD.ROL`, CART.DC, 0x1030..0x1037, R212. -/
  | dpcRdRol (addr : Addr)
  /-- `DPC.RD.FLAG`, CART.DC, 0x1038..0x103F, R212. -/
  | dpcRdFlag (addr : Addr)
  /-- `DPC.WR.TOP`, CART.DC, 0x1040..0x1047, R213. -/
  | dpcWrTop (addr : Addr) (d : Byte)
  /-- `DPC.WR.BOTTOM`, CART.DC, 0x1048..0x104F, R214. -/
  | dpcWrBottom (addr : Addr) (d : Byte)
  /-- `DPC.WR.LOW`, CART.DC, 0x1050..0x1057, R215. -/
  | dpcWrLow (addr : Addr) (d : Byte)
  /-- `DPC.WR.HIGH`, CART.DC, 0x1058..0x105F, R216. -/
  | dpcWrHigh (addr : Addr) (d : Byte)
  /-- `DPC.WR.RNGRESET`, CART.DC, 0x1070..0x1077, R217. -/
  | dpcWrRngReset (addr : Addr) (d : Byte)
  /-- `DPC.WR.NOTIMPL`, CART.DC, 0x1060..0x106F, 0x1078..0x107F, R218. -/
  | dpcWrNotImpl (addr : Addr) (d : Byte)
  /-- `AR.LATCH`, CART.66, 0x1000..0x10FF, R228. -/
  | arLatch (addr : Addr) (acc : Access)
  /-- `AR.CTRL`, CART.66, 0x1FF8, R229. -/
  | arCtrl (addr : Addr) (acc : Access)
  /-- `AR.MEM.RD`, CART.66, 0x1000..0x1FFF, R230. -/
  | arMemRd (addr : Addr)
  /-- `AR.MEM.WR`, CART.66, 0x1000..0x1FFF, R231. -/
  | arMemWr (addr : Addr) (d : Byte)
  /-- `TIA.TICK`, EVT, R320. -/
  | tiaTick
  /-- `TIMER.TICK`, EVT, R376. -/
  | timerTick
  /-- `MAPPER.TICK`, EVT, R143. -/
  | mapperTick
  /-- `APU.TICK`, EVT, R400. -/
  | apuTick
  /-- `CYCLE`, EVT, R443. -/
  | cycle
  /-- `RUN`, EVT, R442. -/
  | run (n : Nat)
  /-- `STEP`, EVT, R440. -/
  | step (events : List CoreEvent)
  /-- `FRAMEREADY?`, EVT, R460. -/
  | frameReady
  /-- `READFB`, EVT, R461. -/
  | readFb
  /-- `READSOUND`, EVT, R462. -/
  | readSound (n : Nat)
  /-- `SETINPUT`, EVT, R463. -/
  | setInput (i : Input)
  /-- `SNAPSHOT.SAVE`, EVT, R466. -/
  | snapshotSave
  /-- `SNAPSHOT.LOAD`, EVT, R467. -/
  | snapshotLoad (snap : Snapshot) (image : Image)
  /-- `POWERON`, EVT, R510. -/
  | powerOn (image : Image) (format : TvFormat) (mode0 mode1 : ControllerMode)
  /-- `MAPPER.RESOLVE`, EVT, R146. -/
  | mapperResolve (addr : Addr) (isWrite : Bool)
  /-- `MAPPER.INIT`, EVT, R145. -/
  | mapperInit
  /-- `FORMAT.CLASSIFY`, EVT, R470. -/
  | formatClassify (lines : List Int)
  /-- `INPUT.SAMPLE`, EVT, R445. -/
  | inputSample
  /-- `FE.TICK`, EVT, R184. -/
  | feTick
  /-- `DPC.TICK`, EVT, R209. -/
  | dpcTick
  /-- `AR.TICK`, EVT, R232. -/
  | arTick
  /-- `AR66.initialize`, EVT, R236. -/
  | ar66Initialize
  deriving DecidableEq, Repr

end Sys2Proof
end

