-- ==== Sys2Proof/Machine/Dispatch.lean ====
section
/-! DEFINITION. The dispatch: one arm per operation, each a direct call of its meaning. -/

namespace Sys2Proof.Machine

/-- The meaning of an operation. -/
def exec (i : Instr) (s : State) : Host.Outcome State Fault Refusal :=
  match i with
  | .vsync addr d => Sys2Proof.Machine.execVsync addr d s
  | .vblank addr d => Sys2Proof.Machine.execVblank addr d s
  | .wsync addr d => Sys2Proof.Machine.execWsync addr d s
  | .rsync addr d => Sys2Proof.Machine.execRsync addr d s
  | .nusiz0 addr d => Sys2Proof.Machine.execNusiz0 addr d s
  | .nusiz1 addr d => Sys2Proof.Machine.execNusiz1 addr d s
  | .colup0 addr d => Sys2Proof.Machine.execColup0 addr d s
  | .colup1 addr d => Sys2Proof.Machine.execColup1 addr d s
  | .colupf addr d => Sys2Proof.Machine.execColupf addr d s
  | .colubk addr d => Sys2Proof.Machine.execColubk addr d s
  | .ctrlpf addr d => Sys2Proof.Machine.execCtrlpf addr d s
  | .refp0 addr d => Sys2Proof.Machine.execRefp0 addr d s
  | .refp1 addr d => Sys2Proof.Machine.execRefp1 addr d s
  | .pf0 addr d => Sys2Proof.Machine.execPf0 addr d s
  | .pf1 addr d => Sys2Proof.Machine.execPf1 addr d s
  | .pf2 addr d => Sys2Proof.Machine.execPf2 addr d s
  | .resp0 addr d => Sys2Proof.Machine.execResp0 addr d s
  | .resp1 addr d => Sys2Proof.Machine.execResp1 addr d s
  | .resm0 addr d => Sys2Proof.Machine.execResm0 addr d s
  | .resm1 addr d => Sys2Proof.Machine.execResm1 addr d s
  | .resbl addr d => Sys2Proof.Machine.execResbl addr d s
  | .audc0 addr d => Sys2Proof.Machine.execAudc0 addr d s
  | .audc1 addr d => Sys2Proof.Machine.execAudc1 addr d s
  | .audf0 addr d => Sys2Proof.Machine.execAudf0 addr d s
  | .audf1 addr d => Sys2Proof.Machine.execAudf1 addr d s
  | .audv0 addr d => Sys2Proof.Machine.execAudv0 addr d s
  | .audv1 addr d => Sys2Proof.Machine.execAudv1 addr d s
  | .grp0 addr d => Sys2Proof.Machine.execGrp0 addr d s
  | .grp1 addr d => Sys2Proof.Machine.execGrp1 addr d s
  | .enam0 addr d => Sys2Proof.Machine.execEnam0 addr d s
  | .enam1 addr d => Sys2Proof.Machine.execEnam1 addr d s
  | .enabl addr d => Sys2Proof.Machine.execEnabl addr d s
  | .hmp0 addr d => Sys2Proof.Machine.execHmp0 addr d s
  | .hmp1 addr d => Sys2Proof.Machine.execHmp1 addr d s
  | .hmm0 addr d => Sys2Proof.Machine.execHmm0 addr d s
  | .hmm1 addr d => Sys2Proof.Machine.execHmm1 addr d s
  | .hmbl addr d => Sys2Proof.Machine.execHmbl addr d s
  | .vdelp0 addr d => Sys2Proof.Machine.execVdelp0 addr d s
  | .vdelp1 addr d => Sys2Proof.Machine.execVdelp1 addr d s
  | .vdelbl addr d => Sys2Proof.Machine.execVdelbl addr d s
  | .resmp0 addr d => Sys2Proof.Machine.execResmp0 addr d s
  | .resmp1 addr d => Sys2Proof.Machine.execResmp1 addr d s
  | .hmove addr d => Sys2Proof.Machine.execHmove addr d s
  | .hmclr addr d => Sys2Proof.Machine.execHmclr addr d s
  | .cxclr addr d => Sys2Proof.Machine.execCxclr addr d s
  | .tiaw2D addr d => Sys2Proof.Machine.execTiaw2D addr d s
  | .tiaw2E addr d => Sys2Proof.Machine.execTiaw2E addr d s
  | .tiaw2F addr d => Sys2Proof.Machine.execTiaw2F addr d s
  | .tiaw30 addr d => Sys2Proof.Machine.execTiaw30 addr d s
  | .tiaw31 addr d => Sys2Proof.Machine.execTiaw31 addr d s
  | .tiaw32 addr d => Sys2Proof.Machine.execTiaw32 addr d s
  | .tiaw33 addr d => Sys2Proof.Machine.execTiaw33 addr d s
  | .tiaw34 addr d => Sys2Proof.Machine.execTiaw34 addr d s
  | .tiaw35 addr d => Sys2Proof.Machine.execTiaw35 addr d s
  | .tiaw36 addr d => Sys2Proof.Machine.execTiaw36 addr d s
  | .tiaw37 addr d => Sys2Proof.Machine.execTiaw37 addr d s
  | .tiaw38 addr d => Sys2Proof.Machine.execTiaw38 addr d s
  | .tiaw39 addr d => Sys2Proof.Machine.execTiaw39 addr d s
  | .tiaw3A addr d => Sys2Proof.Machine.execTiaw3A addr d s
  | .tiaw3B addr d => Sys2Proof.Machine.execTiaw3B addr d s
  | .tiaw3C addr d => Sys2Proof.Machine.execTiaw3C addr d s
  | .tiaw3D addr d => Sys2Proof.Machine.execTiaw3D addr d s
  | .tiaw3E addr d => Sys2Proof.Machine.execTiaw3E addr d s
  | .tiaw3F addr d => Sys2Proof.Machine.execTiaw3F addr d s
  | .cxm0p addr => Sys2Proof.Machine.execCxm0p addr s
  | .cxm1p addr => Sys2Proof.Machine.execCxm1p addr s
  | .cxp0fb addr => Sys2Proof.Machine.execCxp0fb addr s
  | .cxp1fb addr => Sys2Proof.Machine.execCxp1fb addr s
  | .cxm0fb addr => Sys2Proof.Machine.execCxm0fb addr s
  | .cxm1fb addr => Sys2Proof.Machine.execCxm1fb addr s
  | .cxblpf addr => Sys2Proof.Machine.execCxblpf addr s
  | .cxppmm addr => Sys2Proof.Machine.execCxppmm addr s
  | .inpt0 addr => Sys2Proof.Machine.execInpt0 addr s
  | .inpt1 addr => Sys2Proof.Machine.execInpt1 addr s
  | .inpt2 addr => Sys2Proof.Machine.execInpt2 addr s
  | .inpt3 addr => Sys2Proof.Machine.execInpt3 addr s
  | .inpt4 addr => Sys2Proof.Machine.execInpt4 addr s
  | .inpt5 addr => Sys2Proof.Machine.execInpt5 addr s
  | .tiarE addr => Sys2Proof.Machine.execTiarE addr s
  | .tiarF addr => Sys2Proof.Machine.execTiarF addr s
  | .ramRd addr => Sys2Proof.Machine.execRamRd addr s
  | .ramWr addr d => Sys2Proof.Machine.execRamWr addr d s
  | .swchaRd addr => Sys2Proof.Machine.execSwchaRd addr s
  | .swchaWr addr d => Sys2Proof.Machine.execSwchaWr addr d s
  | .swacntRd addr => Sys2Proof.Machine.execSwacntRd addr s
  | .swacntWr addr d => Sys2Proof.Machine.execSwacntWr addr d s
  | .swchbRd addr => Sys2Proof.Machine.execSwchbRd addr s
  | .swchbWr addr d => Sys2Proof.Machine.execSwchbWr addr d s
  | .swbcntRd addr => Sys2Proof.Machine.execSwbcntRd addr s
  | .swbcntWr addr d => Sys2Proof.Machine.execSwbcntWr addr d s
  | .intim addr => Sys2Proof.Machine.execIntim addr s
  | .timint addr => Sys2Proof.Machine.execTimint addr s
  | .tim1t addr d => Sys2Proof.Machine.execTim1t addr d s
  | .tim8t addr d => Sys2Proof.Machine.execTim8t addr d s
  | .tim64t addr d => Sys2Proof.Machine.execTim64t addr d s
  | .t1024t addr d => Sys2Proof.Machine.execT1024t addr d s
  | .edgectl addr d => Sys2Proof.Machine.execEdgectl addr d s
  | .unkRom addr => Sys2Proof.Machine.execUnkRom addr s
  | .unkWr addr d => Sys2Proof.Machine.execUnkWr addr d s
  | .f8Bank0 addr acc => Sys2Proof.Machine.execF8Bank0 addr acc s
  | .f8Bank1 addr acc => Sys2Proof.Machine.execF8Bank1 addr acc s
  | .f8Scw addr d => Sys2Proof.Machine.execF8Scw addr d s
  | .f8Scr addr => Sys2Proof.Machine.execF8Scr addr s
  | .f8Rom addr => Sys2Proof.Machine.execF8Rom addr s
  | .f8Wr addr d => Sys2Proof.Machine.execF8Wr addr d s
  | .f6Bank0 addr acc => Sys2Proof.Machine.execF6Bank0 addr acc s
  | .f6Bank1 addr acc => Sys2Proof.Machine.execF6Bank1 addr acc s
  | .f6Bank2 addr acc => Sys2Proof.Machine.execF6Bank2 addr acc s
  | .f6Bank3 addr acc => Sys2Proof.Machine.execF6Bank3 addr acc s
  | .f6Scw addr d => Sys2Proof.Machine.execF6Scw addr d s
  | .f6Scr addr => Sys2Proof.Machine.execF6Scr addr s
  | .f6Rom addr => Sys2Proof.Machine.execF6Rom addr s
  | .f6Wr addr d => Sys2Proof.Machine.execF6Wr addr d s
  | .f4Bank0 addr acc => Sys2Proof.Machine.execF4Bank0 addr acc s
  | .f4Bank1 addr acc => Sys2Proof.Machine.execF4Bank1 addr acc s
  | .f4Bank2 addr acc => Sys2Proof.Machine.execF4Bank2 addr acc s
  | .f4Bank3 addr acc => Sys2Proof.Machine.execF4Bank3 addr acc s
  | .f4Bank4 addr acc => Sys2Proof.Machine.execF4Bank4 addr acc s
  | .f4Bank5 addr acc => Sys2Proof.Machine.execF4Bank5 addr acc s
  | .f4Bank6 addr acc => Sys2Proof.Machine.execF4Bank6 addr acc s
  | .f4Bank7 addr acc => Sys2Proof.Machine.execF4Bank7 addr acc s
  | .f4Scw addr d => Sys2Proof.Machine.execF4Scw addr d s
  | .f4Scr addr => Sys2Proof.Machine.execF4Scr addr s
  | .f4Rom addr => Sys2Proof.Machine.execF4Rom addr s
  | .f4Wr addr d => Sys2Proof.Machine.execF4Wr addr d s
  | .faBank0 addr acc => Sys2Proof.Machine.execFaBank0 addr acc s
  | .faBank1 addr acc => Sys2Proof.Machine.execFaBank1 addr acc s
  | .faBank2 addr acc => Sys2Proof.Machine.execFaBank2 addr acc s
  | .faRamw addr acc => Sys2Proof.Machine.execFaRamw addr acc s
  | .faRamr addr acc => Sys2Proof.Machine.execFaRamr addr acc s
  | .faRom addr acc => Sys2Proof.Machine.execFaRom addr acc s
  | .f0Next addr acc => Sys2Proof.Machine.execF0Next addr acc s
  | .f0Rom addr acc => Sys2Proof.Machine.execF0Rom addr acc s
  | .e0S0 addr acc => Sys2Proof.Machine.execE0S0 addr acc s
  | .e0S1 addr acc => Sys2Proof.Machine.execE0S1 addr acc s
  | .e0S2 addr acc => Sys2Proof.Machine.execE0S2 addr acc s
  | .e0Rom addr acc => Sys2Proof.Machine.execE0Rom addr acc s
  | .m3fBank addr d => Sys2Proof.Machine.execM3fBank addr d s
  | .m3fRom addr acc => Sys2Proof.Machine.execM3fRom addr acc s
  | .feRom addr acc => Sys2Proof.Machine.execFeRom addr acc s
  | .c0Ramr addr acc => Sys2Proof.Machine.execC0Ramr addr acc s
  | .c0Ramw addr acc => Sys2Proof.Machine.execC0Ramw addr acc s
  | .c0Rom addr acc => Sys2Proof.Machine.execC0Rom addr acc s
  | .e7Bank0 addr acc => Sys2Proof.Machine.execE7Bank0 addr acc s
  | .e7Bank1 addr acc => Sys2Proof.Machine.execE7Bank1 addr acc s
  | .e7Bank2 addr acc => Sys2Proof.Machine.execE7Bank2 addr acc s
  | .e7Bank3 addr acc => Sys2Proof.Machine.execE7Bank3 addr acc s
  | .e7Bank4 addr acc => Sys2Proof.Machine.execE7Bank4 addr acc s
  | .e7Bank5 addr acc => Sys2Proof.Machine.execE7Bank5 addr acc s
  | .e7Bank6 addr acc => Sys2Proof.Machine.execE7Bank6 addr acc s
  | .e7Ramon addr acc => Sys2Proof.Machine.execE7Ramon addr acc s
  | .e7Rbank0 addr acc => Sys2Proof.Machine.execE7Rbank0 addr acc s
  | .e7Rbank1 addr acc => Sys2Proof.Machine.execE7Rbank1 addr acc s
  | .e7Rbank2 addr acc => Sys2Proof.Machine.execE7Rbank2 addr acc s
  | .e7Rbank3 addr acc => Sys2Proof.Machine.execE7Rbank3 addr acc s
  | .e7LowRd addr => Sys2Proof.Machine.execE7LowRd addr s
  | .e7LowWr addr d => Sys2Proof.Machine.execE7LowWr addr d s
  | .e7R256w addr acc => Sys2Proof.Machine.execE7R256w addr acc s
  | .e7R256r addr acc => Sys2Proof.Machine.execE7R256r addr acc s
  | .e7Fixed addr acc => Sys2Proof.Machine.execE7Fixed addr acc s
  | .dpcBank0 addr acc => Sys2Proof.Machine.execDpcBank0 addr acc s
  | .dpcBank1 addr acc => Sys2Proof.Machine.execDpcBank1 addr acc s
  | .dpcRom addr acc => Sys2Proof.Machine.execDpcRom addr acc s
  | .dpcRdRng addr => Sys2Proof.Machine.execDpcRdRng addr s
  | .dpcRdMusic addr => Sys2Proof.Machine.execDpcRdMusic addr s
  | .dpcRdData addr => Sys2Proof.Machine.execDpcRdData addr s
  | .dpcRdGated addr => Sys2Proof.Machine.execDpcRdGated addr s
  | .dpcRdSwap addr => Sys2Proof.Machine.execDpcRdSwap addr s
  | .dpcRdRev addr => Sys2Proof.Machine.execDpcRdRev addr s
  | .dpcRdRor addr => Sys2Proof.Machine.execDpcRdRor addr s
  | .dpcRdRol addr => Sys2Proof.Machine.execDpcRdRol addr s
  | .dpcRdFlag addr => Sys2Proof.Machine.execDpcRdFlag addr s
  | .dpcWrTop addr d => Sys2Proof.Machine.execDpcWrTop addr d s
  | .dpcWrBottom addr d => Sys2Proof.Machine.execDpcWrBottom addr d s
  | .dpcWrLow addr d => Sys2Proof.Machine.execDpcWrLow addr d s
  | .dpcWrHigh addr d => Sys2Proof.Machine.execDpcWrHigh addr d s
  | .dpcWrRngReset addr d => Sys2Proof.Machine.execDpcWrRngReset addr d s
  | .dpcWrNotImpl addr d => Sys2Proof.Machine.execDpcWrNotImpl addr d s
  | .arLatch addr acc => Sys2Proof.Machine.execArLatch addr acc s
  | .arCtrl addr acc => Sys2Proof.Machine.execArCtrl addr acc s
  | .arMemRd addr => Sys2Proof.Machine.execArMemRd addr s
  | .arMemWr addr d => Sys2Proof.Machine.execArMemWr addr d s
  | .tiaTick => Sys2Proof.Machine.execTiaTick s
  | .timerTick => Sys2Proof.Machine.execTimerTick s
  | .mapperTick => Sys2Proof.Machine.execMapperTick s
  | .apuTick => Sys2Proof.Machine.execApuTick s
  | .cycle => Sys2Proof.Machine.execCycle s
  | .run n => Sys2Proof.Machine.execRun n s
  | .step events => Sys2Proof.Machine.execStep events s
  | .frameReady => Sys2Proof.Machine.execFrameReady s
  | .readFb => Sys2Proof.Machine.execReadFb s
  | .readSound n => Sys2Proof.Machine.execReadSound n s
  | .setInput record => Sys2Proof.Machine.execSetInput record s
  | .snapshotSave => Sys2Proof.Machine.execSnapshotSave s
  | .snapshotLoad snap image => Sys2Proof.Machine.execSnapshotLoad snap image s
  | .powerOn image format mode0 mode1 => Sys2Proof.Machine.execPowerOn image format mode0 mode1 s
  | .mapperResolve addr isWrite => Sys2Proof.Machine.execMapperResolve addr isWrite s
  | .mapperInit => Sys2Proof.Machine.execMapperInit s
  | .formatClassify lines => Sys2Proof.Machine.execFormatClassify lines s
  | .inputSample => Sys2Proof.Machine.execInputSample s
  | .feTick => Sys2Proof.Machine.execFeTick s
  | .dpcTick => Sys2Proof.Machine.execDpcTick s
  | .arTick => Sys2Proof.Machine.execArTick s
  | .ar66Initialize => Sys2Proof.Machine.execAr66Initialize s

end Sys2Proof.Machine
end

