-- ==== Sys2Proof/WellFormed.lean ====
section
/-! DEFINITION. Which operands make a well-formed operation, under the active variant's tag ("The active mapper's tag is
the only mode that changes decoding", R92, R100): the address lies where the row's format says (R91, R94 to R97), and an
event that only one variant has is of the active one (R143, R145). -/

namespace Sys2Proof

open Sys2Proof.Machine

/-- The well-formed operations under the tag `tag`. -/
def Instr.wellFormed (tag : Tag) : Instr → Bool
  | .vsync addr _ => tiaWriteAt tag addr 0x00
  | .vblank addr _ => tiaWriteAt tag addr 0x01
  | .wsync addr _ => tiaWriteAt tag addr 0x02
  | .rsync addr _ => tiaWriteAt tag addr 0x03
  | .nusiz0 addr _ => tiaWriteAt tag addr 0x04
  | .nusiz1 addr _ => tiaWriteAt tag addr 0x05
  | .colup0 addr _ => tiaWriteAt tag addr 0x06
  | .colup1 addr _ => tiaWriteAt tag addr 0x07
  | .colupf addr _ => tiaWriteAt tag addr 0x08
  | .colubk addr _ => tiaWriteAt tag addr 0x09
  | .ctrlpf addr _ => tiaWriteAt tag addr 0x0A
  | .refp0 addr _ => tiaWriteAt tag addr 0x0B
  | .refp1 addr _ => tiaWriteAt tag addr 0x0C
  | .pf0 addr _ => tiaWriteAt tag addr 0x0D
  | .pf1 addr _ => tiaWriteAt tag addr 0x0E
  | .pf2 addr _ => tiaWriteAt tag addr 0x0F
  | .resp0 addr _ => tiaWriteAt tag addr 0x10
  | .resp1 addr _ => tiaWriteAt tag addr 0x11
  | .resm0 addr _ => tiaWriteAt tag addr 0x12
  | .resm1 addr _ => tiaWriteAt tag addr 0x13
  | .resbl addr _ => tiaWriteAt tag addr 0x14
  | .audc0 addr _ => tiaWriteAt tag addr 0x15
  | .audc1 addr _ => tiaWriteAt tag addr 0x16
  | .audf0 addr _ => tiaWriteAt tag addr 0x17
  | .audf1 addr _ => tiaWriteAt tag addr 0x18
  | .audv0 addr _ => tiaWriteAt tag addr 0x19
  | .audv1 addr _ => tiaWriteAt tag addr 0x1A
  | .grp0 addr _ => tiaWriteAt tag addr 0x1B
  | .grp1 addr _ => tiaWriteAt tag addr 0x1C
  | .enam0 addr _ => tiaWriteAt tag addr 0x1D
  | .enam1 addr _ => tiaWriteAt tag addr 0x1E
  | .enabl addr _ => tiaWriteAt tag addr 0x1F
  | .hmp0 addr _ => tiaWriteAt tag addr 0x20
  | .hmp1 addr _ => tiaWriteAt tag addr 0x21
  | .hmm0 addr _ => tiaWriteAt tag addr 0x22
  | .hmm1 addr _ => tiaWriteAt tag addr 0x23
  | .hmbl addr _ => tiaWriteAt tag addr 0x24
  | .vdelp0 addr _ => tiaWriteAt tag addr 0x25
  | .vdelp1 addr _ => tiaWriteAt tag addr 0x26
  | .vdelbl addr _ => tiaWriteAt tag addr 0x27
  | .resmp0 addr _ => tiaWriteAt tag addr 0x28
  | .resmp1 addr _ => tiaWriteAt tag addr 0x29
  | .hmove addr _ => tiaWriteAt tag addr 0x2A
  | .hmclr addr _ => tiaWriteAt tag addr 0x2B
  | .cxclr addr _ => tiaWriteAt tag addr 0x2C
  | .tiaw2D addr _ => tiaWriteAt tag addr 0x2D
  | .tiaw2E addr _ => tiaWriteAt tag addr 0x2E
  | .tiaw2F addr _ => tiaWriteAt tag addr 0x2F
  | .tiaw30 addr _ => tiaWriteAt tag addr 0x30
  | .tiaw31 addr _ => tiaWriteAt tag addr 0x31
  | .tiaw32 addr _ => tiaWriteAt tag addr 0x32
  | .tiaw33 addr _ => tiaWriteAt tag addr 0x33
  | .tiaw34 addr _ => tiaWriteAt tag addr 0x34
  | .tiaw35 addr _ => tiaWriteAt tag addr 0x35
  | .tiaw36 addr _ => tiaWriteAt tag addr 0x36
  | .tiaw37 addr _ => tiaWriteAt tag addr 0x37
  | .tiaw38 addr _ => tiaWriteAt tag addr 0x38
  | .tiaw39 addr _ => tiaWriteAt tag addr 0x39
  | .tiaw3A addr _ => tiaWriteAt tag addr 0x3A
  | .tiaw3B addr _ => tiaWriteAt tag addr 0x3B
  | .tiaw3C addr _ => tiaWriteAt tag addr 0x3C
  | .tiaw3D addr _ => tiaWriteAt tag addr 0x3D
  | .tiaw3E addr _ => tiaWriteAt tag addr 0x3E
  | .tiaw3F addr _ => tiaWriteAt tag addr 0x3F
  | .cxm0p addr => tiaReadAt addr 0x0
  | .cxm1p addr => tiaReadAt addr 0x1
  | .cxp0fb addr => tiaReadAt addr 0x2
  | .cxp1fb addr => tiaReadAt addr 0x3
  | .cxm0fb addr => tiaReadAt addr 0x4
  | .cxm1fb addr => tiaReadAt addr 0x5
  | .cxblpf addr => tiaReadAt addr 0x6
  | .cxppmm addr => tiaReadAt addr 0x7
  | .inpt0 addr => tiaReadAt addr 0x8
  | .inpt1 addr => tiaReadAt addr 0x9
  | .inpt2 addr => tiaReadAt addr 0xA
  | .inpt3 addr => tiaReadAt addr 0xB
  | .inpt4 addr => tiaReadAt addr 0xC
  | .inpt5 addr => tiaReadAt addr 0xD
  | .tiarE addr => tiaReadAt addr 0xE
  | .tiarF addr => tiaReadAt addr 0xF
  | .ramRd addr => region addr == .ram
  | .ramWr addr _ => region addr == .ram
  | .swchaRd addr => portAt addr 0
  | .swchaWr addr _ => portAt addr 0
  | .swacntRd addr => portAt addr 1
  | .swacntWr addr _ => portAt addr 1
  | .swchbRd addr => portAt addr 2
  | .swchbWr addr _ => portAt addr 2
  | .swbcntRd addr => portAt addr 3
  | .swbcntWr addr _ => portAt addr 3
  | .intim addr => timerReadAt addr false
  | .timint addr => timerReadAt addr true
  | .tim1t addr _ => timerWriteAt addr 0
  | .tim8t addr _ => timerWriteAt addr 1
  | .tim64t addr _ => timerWriteAt addr 2
  | .t1024t addr _ => timerWriteAt addr 3
  | .edgectl addr _ => edgeAt addr
  | .unkRom addr => cartAt tag .unknown addr
  | .unkWr addr _ => cartAt tag .unknown addr
  | .f8Bank0 addr _ => cartAt tag .f8 addr && a13 addr == 0x1FF8
  | .f8Bank1 addr _ => cartAt tag .f8 addr && a13 addr == 0x1FF9
  | .f8Scw addr _ => cartAt tag .f8 addr && decide (a13 addr ≤ 0x107F)
  | .f8Scr addr => cartAt tag .f8 addr && within 0x1080 0x10FF (a13 addr)
  | .f8Rom addr => cartAt tag .f8 addr && !StdKind.f8.hotspot (a13 addr) && !within 0x1080 0x10FF (a13 addr)
  | .f8Wr addr _ => cartAt tag .f8 addr && !StdKind.f8.hotspot (a13 addr) && decide (0x1080 ≤ a13 addr)
  | .f6Bank0 addr _ => cartAt tag .f6 addr && a13 addr == 0x1FF6
  | .f6Bank1 addr _ => cartAt tag .f6 addr && a13 addr == 0x1FF7
  | .f6Bank2 addr _ => cartAt tag .f6 addr && a13 addr == 0x1FF8
  | .f6Bank3 addr _ => cartAt tag .f6 addr && a13 addr == 0x1FF9
  | .f6Scw addr _ => cartAt tag .f6 addr && decide (a13 addr ≤ 0x107F)
  | .f6Scr addr => cartAt tag .f6 addr && within 0x1080 0x10FF (a13 addr)
  | .f6Rom addr => cartAt tag .f6 addr && !StdKind.f6.hotspot (a13 addr) && !within 0x1080 0x10FF (a13 addr)
  | .f6Wr addr _ => cartAt tag .f6 addr && !StdKind.f6.hotspot (a13 addr) && decide (0x1080 ≤ a13 addr)
  | .f4Bank0 addr _ => cartAt tag .f4 addr && a13 addr == 0x1FF4
  | .f4Bank1 addr _ => cartAt tag .f4 addr && a13 addr == 0x1FF5
  | .f4Bank2 addr _ => cartAt tag .f4 addr && a13 addr == 0x1FF6
  | .f4Bank3 addr _ => cartAt tag .f4 addr && a13 addr == 0x1FF7
  | .f4Bank4 addr _ => cartAt tag .f4 addr && a13 addr == 0x1FF8
  | .f4Bank5 addr _ => cartAt tag .f4 addr && a13 addr == 0x1FF9
  | .f4Bank6 addr _ => cartAt tag .f4 addr && a13 addr == 0x1FFA
  | .f4Bank7 addr _ => cartAt tag .f4 addr && a13 addr == 0x1FFB
  | .f4Scw addr _ => cartAt tag .f4 addr && decide (a13 addr ≤ 0x107F)
  | .f4Scr addr => cartAt tag .f4 addr && within 0x1080 0x10FF (a13 addr)
  | .f4Rom addr => cartAt tag .f4 addr && !StdKind.f4.hotspot (a13 addr) && !within 0x1080 0x10FF (a13 addr)
  | .f4Wr addr _ => cartAt tag .f4 addr && !StdKind.f4.hotspot (a13 addr) && decide (0x1080 ≤ a13 addr)
  | .faBank0 addr _ => cartAt tag .fa addr && a13 addr == 0x1FF8
  | .faBank1 addr _ => cartAt tag .fa addr && a13 addr == 0x1FF9
  | .faBank2 addr _ => cartAt tag .fa addr && a13 addr == 0x1FFA
  | .faRamw addr _ => cartAt tag .fa addr && decide (a13 addr ≤ 0x10FF)
  | .faRamr addr _ => cartAt tag .fa addr && within 0x1100 0x11FF (a13 addr)
  | .faRom addr _ => cartAt tag .fa addr && decide (0x1200 ≤ a13 addr) && !within 0x1FF8 0x1FFA (a13 addr)
  | .f0Next addr _ => cartAt tag .f0 addr && a13 addr == 0x1FF0
  | .f0Rom addr _ => cartAt tag .f0 addr && a13 addr != 0x1FF0
  | .e0S0 addr _ => cartAt tag .e0 addr && within 0x1FE0 0x1FE7 (a13 addr)
  | .e0S1 addr _ => cartAt tag .e0 addr && within 0x1FE8 0x1FEF (a13 addr)
  | .e0S2 addr _ => cartAt tag .e0 addr && within 0x1FF0 0x1FF7 (a13 addr)
  | .e0Rom addr _ => cartAt tag .e0 addr && !within 0x1FE0 0x1FF7 (a13 addr)
  | .m3fBank addr _ => tag == .m3f && region addr == .tia && lowTia addr
  | .m3fRom addr _ => cartAt tag .m3f addr
  | .feRom addr _ => cartAt tag .fe addr
  | .c0Ramr addr _ => cartAt tag .c0 addr && decide (a13 addr ≤ 0x13FF)
  | .c0Ramw addr _ => cartAt tag .c0 addr && within 0x1400 0x17FF (a13 addr)
  | .c0Rom addr _ => cartAt tag .c0 addr && decide (0x1800 ≤ a13 addr)
  | .e7Bank0 addr _ => cartAt tag .e7 addr && a13 addr == 0x1FE0
  | .e7Bank1 addr _ => cartAt tag .e7 addr && a13 addr == 0x1FE1
  | .e7Bank2 addr _ => cartAt tag .e7 addr && a13 addr == 0x1FE2
  | .e7Bank3 addr _ => cartAt tag .e7 addr && a13 addr == 0x1FE3
  | .e7Bank4 addr _ => cartAt tag .e7 addr && a13 addr == 0x1FE4
  | .e7Bank5 addr _ => cartAt tag .e7 addr && a13 addr == 0x1FE5
  | .e7Bank6 addr _ => cartAt tag .e7 addr && a13 addr == 0x1FE6
  | .e7Ramon addr _ => cartAt tag .e7 addr && a13 addr == 0x1FE7
  | .e7Rbank0 addr _ => cartAt tag .e7 addr && a13 addr == 0x1FE8
  | .e7Rbank1 addr _ => cartAt tag .e7 addr && a13 addr == 0x1FE9
  | .e7Rbank2 addr _ => cartAt tag .e7 addr && a13 addr == 0x1FEA
  | .e7Rbank3 addr _ => cartAt tag .e7 addr && a13 addr == 0x1FEB
  | .e7LowRd addr => cartAt tag .e7 addr && decide (a13 addr ≤ 0x17FF)
  | .e7LowWr addr _ => cartAt tag .e7 addr && decide (a13 addr ≤ 0x17FF)
  | .e7R256w addr _ => cartAt tag .e7 addr && within 0x1800 0x18FF (a13 addr)
  | .e7R256r addr _ => cartAt tag .e7 addr && within 0x1900 0x19FF (a13 addr)
  | .e7Fixed addr _ => cartAt tag .e7 addr && decide (0x1A00 ≤ a13 addr) && !within 0x1FE0 0x1FEB (a13 addr)
  | .dpcBank0 addr _ => cartAt tag .dpc addr && a13 addr == 0x1FF8
  | .dpcBank1 addr _ => cartAt tag .dpc addr && a13 addr == 0x1FF9
  | .dpcRom addr acc => cartAt tag .dpc addr && dpcRomAt addr acc
  | .dpcRdRng addr => cartAt tag .dpc addr && dpcReadAt addr 0 && decide (a3 addr < 4)
  | .dpcRdMusic addr => cartAt tag .dpc addr && dpcReadAt addr 0 && decide (4 ≤ a3 addr)
  | .dpcRdData addr => cartAt tag .dpc addr && dpcReadAt addr 1
  | .dpcRdGated addr => cartAt tag .dpc addr && dpcReadAt addr 2
  | .dpcRdSwap addr => cartAt tag .dpc addr && dpcReadAt addr 3
  | .dpcRdRev addr => cartAt tag .dpc addr && dpcReadAt addr 4
  | .dpcRdRor addr => cartAt tag .dpc addr && dpcReadAt addr 5
  | .dpcRdRol addr => cartAt tag .dpc addr && dpcReadAt addr 6
  | .dpcRdFlag addr => cartAt tag .dpc addr && dpcReadAt addr 7
  | .dpcWrTop addr _ => cartAt tag .dpc addr && dpcWriteAt addr 0
  | .dpcWrBottom addr _ => cartAt tag .dpc addr && dpcWriteAt addr 1
  | .dpcWrLow addr _ => cartAt tag .dpc addr && dpcWriteAt addr 2
  | .dpcWrHigh addr _ => cartAt tag .dpc addr && dpcWriteAt addr 3
  | .dpcWrRngReset addr _ => cartAt tag .dpc addr && dpcWriteAt addr 6
  | .dpcWrNotImpl addr _ => cartAt tag .dpc addr && (dpcWriteAt addr 4 || dpcWriteAt addr 5 || dpcWriteAt addr 7)
  | .arLatch addr _ => cartAt tag .ar66 addr && decide (a13 addr ≤ 0x10FF)
  | .arCtrl addr _ => cartAt tag .ar66 addr && a13 addr == 0x1FF8
  | .arMemRd addr => cartAt tag .ar66 addr && decide (0x1100 ≤ a13 addr) && a13 addr != 0x1FF8
  | .arMemWr addr _ => cartAt tag .ar66 addr && decide (0x1100 ≤ a13 addr) && a13 addr != 0x1FF8
  | .tiaTick => true
  | .timerTick => true
  | .mapperTick => !(tag == .fe || tag == .dpc || tag == .ar66)
  | .apuTick => true
  | .cycle => true
  | .run _ => true
  | .step _ => true
  | .frameReady => true
  | .readFb => true
  | .readSound _ => true
  | .setInput _ => true
  | .snapshotSave => true
  | .snapshotLoad _ _ => true
  | .powerOn _ _ _ _ => true
  | .mapperResolve _ _ => true
  | .mapperInit => tag != .ar66
  | .formatClassify _ => true
  | .inputSample => true
  | .feTick => tag == .fe
  | .dpcTick => tag == .dpc
  | .arTick => tag == .ar66
  | .ar66Initialize => tag == .ar66

end Sys2Proof
end

