-- ==== Sys2Proof/Decode.lean ====
section
/-! DEFINITION. The decoder and, after it, the encoder, written from the tables of R91 and R94 to R98.

The decoder of bus words is total (R102): given the active tag and a bus transaction it answers exactly one row. The
`SNOOP` row comes before the region rows (R92). Event codes above 0x11 are refused (R98, R99, U17), and so is an event
whose operand is not of the event's kind (log entry 10). -/

namespace Sys2Proof

open Sys2Proof.Machine

/-! ## Region formats (R91, R94 to R96) -/

/-- `TIAW` with select `k` (R94). -/
def tiaWriteRow (k : Nat) (addr : Addr) (d : Byte) : Instr :=
  match k with
  | 0x00 => .vsync addr d
  | 0x01 => .vblank addr d
  | 0x02 => .wsync addr d
  | 0x03 => .rsync addr d
  | 0x04 => .nusiz0 addr d
  | 0x05 => .nusiz1 addr d
  | 0x06 => .colup0 addr d
  | 0x07 => .colup1 addr d
  | 0x08 => .colupf addr d
  | 0x09 => .colubk addr d
  | 0x0A => .ctrlpf addr d
  | 0x0B => .refp0 addr d
  | 0x0C => .refp1 addr d
  | 0x0D => .pf0 addr d
  | 0x0E => .pf1 addr d
  | 0x0F => .pf2 addr d
  | 0x10 => .resp0 addr d
  | 0x11 => .resp1 addr d
  | 0x12 => .resm0 addr d
  | 0x13 => .resm1 addr d
  | 0x14 => .resbl addr d
  | 0x15 => .audc0 addr d
  | 0x16 => .audc1 addr d
  | 0x17 => .audf0 addr d
  | 0x18 => .audf1 addr d
  | 0x19 => .audv0 addr d
  | 0x1A => .audv1 addr d
  | 0x1B => .grp0 addr d
  | 0x1C => .grp1 addr d
  | 0x1D => .enam0 addr d
  | 0x1E => .enam1 addr d
  | 0x1F => .enabl addr d
  | 0x20 => .hmp0 addr d
  | 0x21 => .hmp1 addr d
  | 0x22 => .hmm0 addr d
  | 0x23 => .hmm1 addr d
  | 0x24 => .hmbl addr d
  | 0x25 => .vdelp0 addr d
  | 0x26 => .vdelp1 addr d
  | 0x27 => .vdelbl addr d
  | 0x28 => .resmp0 addr d
  | 0x29 => .resmp1 addr d
  | 0x2A => .hmove addr d
  | 0x2B => .hmclr addr d
  | 0x2C => .cxclr addr d
  | 0x2D => .tiaw2D addr d
  | 0x2E => .tiaw2E addr d
  | 0x2F => .tiaw2F addr d
  | 0x30 => .tiaw30 addr d
  | 0x31 => .tiaw31 addr d
  | 0x32 => .tiaw32 addr d
  | 0x33 => .tiaw33 addr d
  | 0x34 => .tiaw34 addr d
  | 0x35 => .tiaw35 addr d
  | 0x36 => .tiaw36 addr d
  | 0x37 => .tiaw37 addr d
  | 0x38 => .tiaw38 addr d
  | 0x39 => .tiaw39 addr d
  | 0x3A => .tiaw3A addr d
  | 0x3B => .tiaw3B addr d
  | 0x3C => .tiaw3C addr d
  | 0x3D => .tiaw3D addr d
  | 0x3E => .tiaw3E addr d
  | _ => .tiaw3F addr d

/-- `TIAW`, by `a[5:0]` (R94). -/
def decodeTiaWrite (addr : Addr) (d : Byte) : Instr := tiaWriteRow (a6 addr) addr d

/-- `TIAR` with select `k` (R95). -/
def tiaReadRow (k : Nat) (addr : Addr) : Instr :=
  match k with
  | 0x0 => .cxm0p addr
  | 0x1 => .cxm1p addr
  | 0x2 => .cxp0fb addr
  | 0x3 => .cxp1fb addr
  | 0x4 => .cxm0fb addr
  | 0x5 => .cxm1fb addr
  | 0x6 => .cxblpf addr
  | 0x7 => .cxppmm addr
  | 0x8 => .inpt0 addr
  | 0x9 => .inpt1 addr
  | 0xA => .inpt2 addr
  | 0xB => .inpt3 addr
  | 0xC => .inpt4 addr
  | 0xD => .inpt5 addr
  | 0xE => .tiarE addr
  | _ => .tiarF addr

/-- `TIAR`, by `a[3:0]` (R95). -/
def decodeTiaRead (addr : Addr) : Instr := tiaReadRow (a4 addr) addr

/-- `RAM` (R96). -/
def decodeRam (addr : Addr) : Access → Instr
  | .rd => .ramRd addr
  | .wr d => .ramWr addr d

/-- `IOP` read with select `k` (R96). -/
def portReadRow (k : Nat) (addr : Addr) : Instr :=
  match k with
  | 0 => .swchaRd addr
  | 1 => .swacntRd addr
  | 2 => .swchbRd addr
  | _ => .swbcntRd addr

/-- `IOP` write with select `k` (R96). -/
def portWriteRow (k : Nat) (addr : Addr) (d : Byte) : Instr :=
  match k with
  | 0 => .swchaWr addr d
  | 1 => .swacntWr addr d
  | 2 => .swchbWr addr d
  | _ => .swbcntWr addr d

/-- `TMRW` with divider select `k` (R96). -/
def timerWriteRow (k : Nat) (addr : Addr) (d : Byte) : Instr :=
  match k with
  | 0 => .tim1t addr d
  | 1 => .tim8t addr d
  | 2 => .tim64t addr d
  | _ => .t1024t addr d

/-- `IOP`, `TMRR` and `TMRW` (R96, R360). -/
def decodeIo (addr : Addr) : Access → Instr
  | .rd =>
    if !timerSelect addr then portReadRow (a2 addr) addr
    else if addr.getLsbD 0 then .timint addr
    else .intim addr
  | .wr d =>
    if !timerSelect addr then portWriteRow (a2 addr) addr d
    else if addr.getLsbD 4 then timerWriteRow (a2 addr) addr d
    else .edgectl addr d

/-! ## Cartridge formats, one per tag, the rows in priority order (R92, R97) -/

/-- `CART.Unknown`. -/
def decodeUnknown (addr : Addr) : Access → Instr
  | .rd => .unkRom addr
  | .wr d => .unkWr addr d

/-- `CART.F8`. -/
def decodeF8 (addr : Addr) (acc : Access) : Instr :=
  let a := a13 addr
  if a = 0x1FF8 then .f8Bank0 addr acc
  else if a = 0x1FF9 then .f8Bank1 addr acc
  else
    match acc with
    | .rd => if within 0x1080 0x10FF a then .f8Scr addr else .f8Rom addr
    | .wr d => if a ≤ 0x107F then .f8Scw addr d else .f8Wr addr d

/-- `CART.F6`. -/
def decodeF6 (addr : Addr) (acc : Access) : Instr :=
  let a := a13 addr
  if a = 0x1FF6 then .f6Bank0 addr acc
  else if a = 0x1FF7 then .f6Bank1 addr acc
  else if a = 0x1FF8 then .f6Bank2 addr acc
  else if a = 0x1FF9 then .f6Bank3 addr acc
  else
    match acc with
    | .rd => if within 0x1080 0x10FF a then .f6Scr addr else .f6Rom addr
    | .wr d => if a ≤ 0x107F then .f6Scw addr d else .f6Wr addr d

/-- `CART.F4`. -/
def decodeF4 (addr : Addr) (acc : Access) : Instr :=
  let a := a13 addr
  if a = 0x1FF4 then .f4Bank0 addr acc
  else if a = 0x1FF5 then .f4Bank1 addr acc
  else if a = 0x1FF6 then .f4Bank2 addr acc
  else if a = 0x1FF7 then .f4Bank3 addr acc
  else if a = 0x1FF8 then .f4Bank4 addr acc
  else if a = 0x1FF9 then .f4Bank5 addr acc
  else if a = 0x1FFA then .f4Bank6 addr acc
  else if a = 0x1FFB then .f4Bank7 addr acc
  else
    match acc with
    | .rd => if within 0x1080 0x10FF a then .f4Scr addr else .f4Rom addr
    | .wr d => if a ≤ 0x107F then .f4Scw addr d else .f4Wr addr d

/-- `CART.FA`. -/
def decodeFA (addr : Addr) (acc : Access) : Instr :=
  let a := a13 addr
  if a = 0x1FF8 then .faBank0 addr acc
  else if a = 0x1FF9 then .faBank1 addr acc
  else if a = 0x1FFA then .faBank2 addr acc
  else if a ≤ 0x10FF then .faRamw addr acc
  else if a ≤ 0x11FF then .faRamr addr acc
  else .faRom addr acc

/-- `CART.F0`. -/
def decodeF0 (addr : Addr) (acc : Access) : Instr :=
  if a13 addr = 0x1FF0 then .f0Next addr acc else .f0Rom addr acc

/-- `CART.E0`. -/
def decodeE0 (addr : Addr) (acc : Access) : Instr :=
  let a := a13 addr
  if within 0x1FE0 0x1FE7 a then .e0S0 addr acc
  else if within 0x1FE8 0x1FEF a then .e0S1 addr acc
  else if within 0x1FF0 0x1FF7 a then .e0S2 addr acc
  else .e0Rom addr acc

/-- `CART.C0`. -/
def decodeC0 (addr : Addr) (acc : Access) : Instr :=
  let a := a13 addr
  if a ≤ 0x13FF then .c0Ramr addr acc
  else if a ≤ 0x17FF then .c0Ramw addr acc
  else .c0Rom addr acc

/-- `CART.E7`. -/
def decodeE7 (addr : Addr) (acc : Access) : Instr :=
  let a := a13 addr
  if a = 0x1FE0 then .e7Bank0 addr acc
  else if a = 0x1FE1 then .e7Bank1 addr acc
  else if a = 0x1FE2 then .e7Bank2 addr acc
  else if a = 0x1FE3 then .e7Bank3 addr acc
  else if a = 0x1FE4 then .e7Bank4 addr acc
  else if a = 0x1FE5 then .e7Bank5 addr acc
  else if a = 0x1FE6 then .e7Bank6 addr acc
  else if a = 0x1FE7 then .e7Ramon addr acc
  else if a = 0x1FE8 then .e7Rbank0 addr acc
  else if a = 0x1FE9 then .e7Rbank1 addr acc
  else if a = 0x1FEA then .e7Rbank2 addr acc
  else if a = 0x1FEB then .e7Rbank3 addr acc
  else if a ≤ 0x17FF then
    match acc with
    | .rd => .e7LowRd addr
    | .wr d => .e7LowWr addr d
  else if a ≤ 0x18FF then .e7R256w addr acc
  else if a ≤ 0x19FF then .e7R256r addr acc
  else .e7Fixed addr acc

/-- The DPC read register with function `f` (R210 to R212). -/
def dpcReadRow (f : Nat) (addr : Addr) : Instr :=
  match f with
  | 0 => if a3 addr < 4 then .dpcRdRng addr else .dpcRdMusic addr
  | 1 => .dpcRdData addr
  | 2 => .dpcRdGated addr
  | 3 => .dpcRdSwap addr
  | 4 => .dpcRdRev addr
  | 5 => .dpcRdRor addr
  | 6 => .dpcRdRol addr
  | _ => .dpcRdFlag addr

/-- The DPC write register with function `f` (R213 to R218). -/
def dpcWriteRow (f : Nat) (addr : Addr) (d : Byte) : Instr :=
  match f with
  | 0 => .dpcWrTop addr d
  | 1 => .dpcWrBottom addr d
  | 2 => .dpcWrLow addr d
  | 3 => .dpcWrHigh addr d
  | 6 => .dpcWrRngReset addr d
  | _ => .dpcWrNotImpl addr d

/-- `CART.DC`. -/
def decodeDpc (addr : Addr) (acc : Access) : Instr :=
  let a := a13 addr
  if a = 0x1FF8 then .dpcBank0 addr acc
  else if a = 0x1FF9 then .dpcBank1 addr acc
  else if a ≤ 0x103F then
    match acc with
    | .rd => dpcReadRow (dpcFunction addr) addr
    | .wr d => .dpcRom addr (.wr d)
  else if a ≤ 0x107F then
    match acc with
    | .rd => .dpcRom addr .rd
    | .wr d => dpcWriteRow (dpcFunction addr) addr d
  else .dpcRom addr acc

/-- `CART.66`. -/
def decodeAr (addr : Addr) (acc : Access) : Instr :=
  let a := a13 addr
  if a ≤ 0x10FF then .arLatch addr acc
  else if a = 0x1FF8 then .arCtrl addr acc
  else
    match acc with
    | .rd => .arMemRd addr
    | .wr d => .arMemWr addr d

/-- The cartridge formats by the active tag (R97). -/
def decodeCart (tag : Tag) (addr : Addr) (acc : Access) : Instr :=
  match tag with
  | .unknown => decodeUnknown addr acc
  | .f8 => decodeF8 addr acc
  | .f6 => decodeF6 addr acc
  | .f4 => decodeF4 addr acc
  | .fa => decodeFA addr acc
  | .f0 => decodeF0 addr acc
  | .e0 => decodeE0 addr acc
  | .m3f => .m3fRom addr acc
  | .fe => .feRom addr acc
  | .e7 => decodeE7 addr acc
  | .dpc => decodeDpc addr acc
  | .ar66 => decodeAr addr acc
  | .c0 => decodeC0 addr acc

/-- A bus transaction under the tag that serves it (R92, R102). -/
def decodeBus (tag : Tag) (addr : Addr) (acc : Access) : Instr :=
  match region addr with
  | .cart => decodeCart tag addr acc
  | .ram => decodeRam addr acc
  | .io => decodeIo addr acc
  | .tia =>
    match acc with
    | .rd => decodeTiaRead addr
    | .wr d => if snooped tag addr then .m3fBank addr d else decodeTiaWrite addr d

/-! ## Events (R98) -/

/-- An event code with its operand, under the active tag; the variant arms of `MAPPER.TICK` and `MAPPER.INIT` have rows
of their own (R143, R145). -/
def decodeEvent (tag : Tag) (code : BitVec 8) (op : Operand) : Option Instr :=
  match code.toNat, op with
  | 0x00, .none => some .tiaTick
  | 0x01, .none => some .timerTick
  | 0x02, .none =>
    match tag with
    | .fe => some .feTick
    | .dpc => some .dpcTick
    | .ar66 => some .arTick
    | _ => some .mapperTick
  | 0x03, .none => some .apuTick
  | 0x04, .none => some .cycle
  | 0x05, .count n => some (.run n)
  | 0x06, .core events => some (.step events)
  | 0x07, .none => some .frameReady
  | 0x08, .none => some .readFb
  | 0x09, .count n => some (.readSound n)
  | 0x0A, .input i => some (.setInput i)
  | 0x0B, .none => some .snapshotSave
  | 0x0C, .snapshot snap image => some (.snapshotLoad snap image)
  | 0x0D, .power image format mode0 mode1 => some (.powerOn image format mode0 mode1)
  | 0x0E, .access addr isWrite => some (.mapperResolve addr isWrite)
  | 0x0F, .none => if tag = .ar66 then some .ar66Initialize else some .mapperInit
  | 0x10, .counts lines => some (.formatClassify lines)
  | 0x11, .none => some .inputSample
  | _, _ => none

/-- The decoder: the operation a request stands for under the active tag, `none` where it is refused. -/
def decode (tag : Tag) (r : Request) : Option Instr :=
  match r with
  | .read addr => some (decodeBus tag addr .rd)
  | .write addr d => some (decodeBus tag addr (.wr d))
  | .event code op => decodeEvent tag code op

/-! ## The encoder -/

/-- The request of a bus transaction. -/
def busRequest (addr : Addr) : Access → Request
  | .rd => .read addr
  | .wr d => .write addr d

/-- The request an operation is issued as: a read, a write, or its event code of R98 with the operand. -/
def encode : Instr → Request
  | .vsync addr d => .write addr d
  | .vblank addr d => .write addr d
  | .wsync addr d => .write addr d
  | .rsync addr d => .write addr d
  | .nusiz0 addr d => .write addr d
  | .nusiz1 addr d => .write addr d
  | .colup0 addr d => .write addr d
  | .colup1 addr d => .write addr d
  | .colupf addr d => .write addr d
  | .colubk addr d => .write addr d
  | .ctrlpf addr d => .write addr d
  | .refp0 addr d => .write addr d
  | .refp1 addr d => .write addr d
  | .pf0 addr d => .write addr d
  | .pf1 addr d => .write addr d
  | .pf2 addr d => .write addr d
  | .resp0 addr d => .write addr d
  | .resp1 addr d => .write addr d
  | .resm0 addr d => .write addr d
  | .resm1 addr d => .write addr d
  | .resbl addr d => .write addr d
  | .audc0 addr d => .write addr d
  | .audc1 addr d => .write addr d
  | .audf0 addr d => .write addr d
  | .audf1 addr d => .write addr d
  | .audv0 addr d => .write addr d
  | .audv1 addr d => .write addr d
  | .grp0 addr d => .write addr d
  | .grp1 addr d => .write addr d
  | .enam0 addr d => .write addr d
  | .enam1 addr d => .write addr d
  | .enabl addr d => .write addr d
  | .hmp0 addr d => .write addr d
  | .hmp1 addr d => .write addr d
  | .hmm0 addr d => .write addr d
  | .hmm1 addr d => .write addr d
  | .hmbl addr d => .write addr d
  | .vdelp0 addr d => .write addr d
  | .vdelp1 addr d => .write addr d
  | .vdelbl addr d => .write addr d
  | .resmp0 addr d => .write addr d
  | .resmp1 addr d => .write addr d
  | .hmove addr d => .write addr d
  | .hmclr addr d => .write addr d
  | .cxclr addr d => .write addr d
  | .tiaw2D addr d => .write addr d
  | .tiaw2E addr d => .write addr d
  | .tiaw2F addr d => .write addr d
  | .tiaw30 addr d => .write addr d
  | .tiaw31 addr d => .write addr d
  | .tiaw32 addr d => .write addr d
  | .tiaw33 addr d => .write addr d
  | .tiaw34 addr d => .write addr d
  | .tiaw35 addr d => .write addr d
  | .tiaw36 addr d => .write addr d
  | .tiaw37 addr d => .write addr d
  | .tiaw38 addr d => .write addr d
  | .tiaw39 addr d => .write addr d
  | .tiaw3A addr d => .write addr d
  | .tiaw3B addr d => .write addr d
  | .tiaw3C addr d => .write addr d
  | .tiaw3D addr d => .write addr d
  | .tiaw3E addr d => .write addr d
  | .tiaw3F addr d => .write addr d
  | .cxm0p addr => .read addr
  | .cxm1p addr => .read addr
  | .cxp0fb addr => .read addr
  | .cxp1fb addr => .read addr
  | .cxm0fb addr => .read addr
  | .cxm1fb addr => .read addr
  | .cxblpf addr => .read addr
  | .cxppmm addr => .read addr
  | .inpt0 addr => .read addr
  | .inpt1 addr => .read addr
  | .inpt2 addr => .read addr
  | .inpt3 addr => .read addr
  | .inpt4 addr => .read addr
  | .inpt5 addr => .read addr
  | .tiarE addr => .read addr
  | .tiarF addr => .read addr
  | .ramRd addr => .read addr
  | .ramWr addr d => .write addr d
  | .swchaRd addr => .read addr
  | .swchaWr addr d => .write addr d
  | .swacntRd addr => .read addr
  | .swacntWr addr d => .write addr d
  | .swchbRd addr => .read addr
  | .swchbWr addr d => .write addr d
  | .swbcntRd addr => .read addr
  | .swbcntWr addr d => .write addr d
  | .intim addr => .read addr
  | .timint addr => .read addr
  | .tim1t addr d => .write addr d
  | .tim8t addr d => .write addr d
  | .tim64t addr d => .write addr d
  | .t1024t addr d => .write addr d
  | .edgectl addr d => .write addr d
  | .unkRom addr => .read addr
  | .unkWr addr d => .write addr d
  | .f8Bank0 addr acc => busRequest addr acc
  | .f8Bank1 addr acc => busRequest addr acc
  | .f8Scw addr d => .write addr d
  | .f8Scr addr => .read addr
  | .f8Rom addr => .read addr
  | .f8Wr addr d => .write addr d
  | .f6Bank0 addr acc => busRequest addr acc
  | .f6Bank1 addr acc => busRequest addr acc
  | .f6Bank2 addr acc => busRequest addr acc
  | .f6Bank3 addr acc => busRequest addr acc
  | .f6Scw addr d => .write addr d
  | .f6Scr addr => .read addr
  | .f6Rom addr => .read addr
  | .f6Wr addr d => .write addr d
  | .f4Bank0 addr acc => busRequest addr acc
  | .f4Bank1 addr acc => busRequest addr acc
  | .f4Bank2 addr acc => busRequest addr acc
  | .f4Bank3 addr acc => busRequest addr acc
  | .f4Bank4 addr acc => busRequest addr acc
  | .f4Bank5 addr acc => busRequest addr acc
  | .f4Bank6 addr acc => busRequest addr acc
  | .f4Bank7 addr acc => busRequest addr acc
  | .f4Scw addr d => .write addr d
  | .f4Scr addr => .read addr
  | .f4Rom addr => .read addr
  | .f4Wr addr d => .write addr d
  | .faBank0 addr acc => busRequest addr acc
  | .faBank1 addr acc => busRequest addr acc
  | .faBank2 addr acc => busRequest addr acc
  | .faRamw addr acc => busRequest addr acc
  | .faRamr addr acc => busRequest addr acc
  | .faRom addr acc => busRequest addr acc
  | .f0Next addr acc => busRequest addr acc
  | .f0Rom addr acc => busRequest addr acc
  | .e0S0 addr acc => busRequest addr acc
  | .e0S1 addr acc => busRequest addr acc
  | .e0S2 addr acc => busRequest addr acc
  | .e0Rom addr acc => busRequest addr acc
  | .m3fBank addr d => .write addr d
  | .m3fRom addr acc => busRequest addr acc
  | .feRom addr acc => busRequest addr acc
  | .c0Ramr addr acc => busRequest addr acc
  | .c0Ramw addr acc => busRequest addr acc
  | .c0Rom addr acc => busRequest addr acc
  | .e7Bank0 addr acc => busRequest addr acc
  | .e7Bank1 addr acc => busRequest addr acc
  | .e7Bank2 addr acc => busRequest addr acc
  | .e7Bank3 addr acc => busRequest addr acc
  | .e7Bank4 addr acc => busRequest addr acc
  | .e7Bank5 addr acc => busRequest addr acc
  | .e7Bank6 addr acc => busRequest addr acc
  | .e7Ramon addr acc => busRequest addr acc
  | .e7Rbank0 addr acc => busRequest addr acc
  | .e7Rbank1 addr acc => busRequest addr acc
  | .e7Rbank2 addr acc => busRequest addr acc
  | .e7Rbank3 addr acc => busRequest addr acc
  | .e7LowRd addr => .read addr
  | .e7LowWr addr d => .write addr d
  | .e7R256w addr acc => busRequest addr acc
  | .e7R256r addr acc => busRequest addr acc
  | .e7Fixed addr acc => busRequest addr acc
  | .dpcBank0 addr acc => busRequest addr acc
  | .dpcBank1 addr acc => busRequest addr acc
  | .dpcRom addr acc => busRequest addr acc
  | .dpcRdRng addr => .read addr
  | .dpcRdMusic addr => .read addr
  | .dpcRdData addr => .read addr
  | .dpcRdGated addr => .read addr
  | .dpcRdSwap addr => .read addr
  | .dpcRdRev addr => .read addr
  | .dpcRdRor addr => .read addr
  | .dpcRdRol addr => .read addr
  | .dpcRdFlag addr => .read addr
  | .dpcWrTop addr d => .write addr d
  | .dpcWrBottom addr d => .write addr d
  | .dpcWrLow addr d => .write addr d
  | .dpcWrHigh addr d => .write addr d
  | .dpcWrRngReset addr d => .write addr d
  | .dpcWrNotImpl addr d => .write addr d
  | .arLatch addr acc => busRequest addr acc
  | .arCtrl addr acc => busRequest addr acc
  | .arMemRd addr => .read addr
  | .arMemWr addr d => .write addr d
  | .tiaTick => .event 0x00 .none
  | .timerTick => .event 0x01 .none
  | .mapperTick => .event 0x02 .none
  | .apuTick => .event 0x03 .none
  | .cycle => .event 0x04 .none
  | .run n => .event 0x05 (.count n)
  | .step events => .event 0x06 (.core events)
  | .frameReady => .event 0x07 .none
  | .readFb => .event 0x08 .none
  | .readSound n => .event 0x09 (.count n)
  | .setInput i => .event 0x0A (.input i)
  | .snapshotSave => .event 0x0B .none
  | .snapshotLoad snap image => .event 0x0C (.snapshot snap image)
  | .powerOn image format mode0 mode1 => .event 0x0D (.power image format mode0 mode1)
  | .mapperResolve addr isWrite => .event 0x0E (.access addr isWrite)
  | .mapperInit => .event 0x0F .none
  | .formatClassify lines => .event 0x10 (.counts lines)
  | .inputSample => .event 0x11 .none
  | .feTick => .event 0x02 .none
  | .dpcTick => .event 0x02 .none
  | .arTick => .event 0x02 .none
  | .ar66Initialize => .event 0x0F .none

/-- The 22-bit bus word `W = rw : a[12:0] : d` of a bus request, with `d = 0` in a read (R90, R101); no word for an
event. -/
def busWord : Request → Option Nat
  | .read addr => some (a13 addr * 0x100)
  | .write addr d => some (0x200000 + a13 addr * 0x100 + d.toNat)
  | .event _ _ => none

/-! ## Words as the opcode table numbers them -/

/-- The bus request of a 22-bit word; the callback address bits 15:13, which are not in the word (R90), are 0. -/
def requestOfBusWord (w : Nat) : Request :=
  let addr : Addr := BitVec.ofNat 16 (w / 0x100 % 0x2000)
  if w / 0x200000 % 2 = 1 then .write addr (BitVec.ofNat 8 w) else .read addr

/-- A power-on snapshot of version 0: the operand of zeros of `SNAPSHOT.LOAD`. -/
def zeroSnapshot : Snapshot :=
  Snapshot.mk 0 [] 0 [] 0 0 0 resetTimer resetTia resetApu resetIo neutralInput none [] .ntsc .joystick .joystick
    (.variant .unknown)

/-- The operand of zeros of an event code. -/
def zeroOperand (code : BitVec 8) : Operand :=
  match code.toNat with
  | 0x05 => .count 0
  | 0x06 => .core []
  | 0x09 => .count 0
  | 0x0A => .input neutralInput
  | 0x0C => .snapshot zeroSnapshot Image.empty
  | 0x0D => .power Image.empty .ntsc .joystick .joystick
  | 0x0E => .access 0 false
  | 0x10 => .counts []
  | _ => .none

/-- The request of a table word: up to 8 bits are an event code (format `EVT`), more are a bus word. -/
def requestOfTableWord (nbits w : Nat) : Request :=
  if nbits ≤ 8 then .event (BitVec.ofNat 8 w) (zeroOperand (BitVec.ofNat 8 w)) else requestOfBusWord w

/-- The tag a lone table word is read under. A cartridge word means something only under a variant (R97, R100), and the
word does not carry the tag; this takes the variant whose row fits the word with the most fixed bits, the earliest row
of the table on a tie. Words outside cartridge space read the same under every variant but `3F`; `F8`, which neither
snoops nor is ever replaced, stands for them. [DESIGN CHOICE: log entry 18] -/
def tableTag (r : Request) : Tag :=
  match r with
  | .event _ _ => .f8
  | .read addr =>
    let a := a13 addr
    if a < 0x1000 then .f8
    else if a ≤ 0x103F then .dpc
    else if a ≤ 0x107F then .fa
    else if a ≤ 0x10FF then .f8
    else tableTagHigh a
  | .write addr _ =>
    let a := a13 addr
    if a < 0x1000 then .f8
    else if a ≤ 0x103F then .f8
    else if a ≤ 0x105F then .dpc
    else if a ≤ 0x106F then .f8
    else if a ≤ 0x1077 then .dpc
    else if a ≤ 0x107F then .f8
    else if a ≤ 0x10FF then .fa
    else tableTagHigh a
where
  tableTagHigh (a : Nat) : Tag :=
    if a ≤ 0x11FF then .fa
    else if a ≤ 0x17FF then .c0
    else if a ≤ 0x19FF then .e7
    else if a ≤ 0x1FDF then .c0
    else if a ≤ 0x1FEB then .e7
    else if a ≤ 0x1FEF then .e0
    else if a ≤ 0x1FF0 then .f0
    else if a ≤ 0x1FF3 then .e0
    else if a ≤ 0x1FF5 then .f4
    else if a ≤ 0x1FF7 then .f6
    else if a ≤ 0x1FF9 then .f8
    else if a ≤ 0x1FFB then .f4
    else .c0

/-- The operation the decoder reads from a word as the opcode table numbers its bits. -/
def decodeTableWord (nbits w : Nat) : Option Instr :=
  let r := requestOfTableWord nbits w
  decode (tableTag r) r

end Sys2Proof
end

