-- ==== Sys2Proof/Machine/Fetch.lean ====
section
/-! DEFINITION. Taking the next request from the agents (log entry 1): which variant serves it, and the operation it
stands for. -/

namespace Sys2Proof.Machine

/-- The tag a request is decoded under: "a read that selects the mapper is served by the new variant" (R121, R122, R146).
-/
def servingTag (r : Request) (s : State) : Tag :=
  match r with
  | .read addr => (resolve addr false s).bus.mapper.tag
  | .write addr _ => (resolve addr true s).bus.mapper.tag
  | .event _ _ => s.bus.mapper.tag

/-- The operation a request stands for in a state, none where the decoder refuses it (R99, R102). -/
def operationOf (r : Request) (s : State) : Option Instr := decode (servingTag r s) r

/-- Places a request before all others. -/
def State.withRequest (r : Request) (s : State) : State := { s with inbox := r :: s.inbox }

/-- Places a table word's request first. The active variant stays if the word stands for the same operation under it;
else the variant that the word is read under becomes active, with the fields of a fresh record (log entry 18). -/
def placeWord (nbits w : Nat) (s : State) : State :=
  let r := requestOfTableWord nbits w
  if operationOf r s = decodeTableWord nbits w then s.withRequest r
  else (s.setMapper (fresh (tableTag r))).withRequest r

end Sys2Proof.Machine
end

