-- ==== Sys2Proof/Machine/Step.lean ====
section
/-! DEFINITION. The step: the oldest request is taken, decoded and executed. -/

namespace Sys2Proof.Machine

/-- One step. With no request waiting the block does nothing: it runs only when an agent acts (R3, R69; log entry 1). -/
def step (s : State) : Host.Outcome State Fault Refusal :=
  match s.inbox with
  | [] => .next s
  | r :: rest =>
    match operationOf r s with
    | none => .refused .notAnOperation
    | some i => exec i { s with inbox := rest }

/-- The state with a table word's operation placed as the very next one (log entry 18). -/
def State.withFetchWord (s : State) (nbits w : Nat) : State := placeWord nbits w s

end Sys2Proof.Machine
end

