-- ==== Sys2Proof/Safety.lean ====
section
/-! DEFINITION. The invariant of a safe run: every state element in its declared range and every byte array in its
canonical form (R22 to R43, R44), and the same of every value that waits to be loaded (log entry 26). -/

namespace Sys2Proof.Machine

/-- Every state element is in its range. -/
def State.ok (s : State) : Bool :=
  Mem.ok Config.ramSize s.bus.ram && s.bus.mapper.ok s.image.size && s.timer.ok && s.tia.ok && s.apu.ok
    && s.io.ok s.cycles && s.input.ok && s.image.ok

/-- A waiting request brings values in range: an image in canonical form, a snapshot of a state in range, and, where an
older snapshot is to be migrated, a migrated one in range. Every other operand is in range by its type, or is checked
(R463). -/
def Request.ok : Request → Bool
  | .event _ (.snapshot snap image) =>
    snap.ok image && (decide (Config.snapVersion ≤ snap.version) || (Config.migrate snap).all fun m => m.ok image)
  | .event _ (.power image _ _ _) => image.ok
  | _ => true

/-- The invariant. -/
def State.safe (s : State) : Bool := s.ok && s.inbox.all Request.ok

/-- At a boundary between processor cycles the beam is at a multiple of three clocks (R44, R343). -/
def State.onCycle (s : State) : Bool := emod (s.tia.x + 68) 3 == 0

end Sys2Proof.Machine
end

