-- ==== Sys2Proof/Certificates/Slice0/Obligations.lean ====
section
/-! DEFINITION. The statements for the provers. `Spec` holds the few expressions they share: the last actions of a bus
transaction (R121, R122), a byte of the image (R60), a draw (R11). `opened addr acc s` is the state in which a bus
transaction's register is served: after detection and the snoop hook (`Obligations.BeforeTheDispatch`). Where a statement names
`Config.draw8`, it holds whatever byte that free value is. -/

namespace Sys2Proof.Spec

open Sys2Proof.Machine

/-- The end of a bus read: `lastReadAddr`, `lastAccessAddr`, and the byte returned (R121). -/
def afterRead (addr : Addr) (v : Byte) (s : State) : State :=
  { s with bus := { s.bus with lastReadAddr := addr, lastAccessAddr := addr }, reply := .byte v }

/-- The end of a bus write: `lastWriteAddr`, `lastAccessAddr` (R122). -/
def afterWrite (addr : Addr) (s : State) : State :=
  { s with bus := { s.bus with lastWriteAddr := addr, lastAccessAddr := addr }, reply := .none }

/-- A bus read that returns a drawn byte. -/
def drawReply (addr : Addr) (s : State) : State :=
  afterRead addr (Config.draw8 s.draws) { s with draws := s.draws + 1 }

/-- A bus read that returns `f image[i]`; an index outside the image reads as a draw (log entry 6). -/
def romReplyVia (f : Byte → Byte) (addr : Addr) (i : Nat) (s : State) : State :=
  if i < s.image.size then afterRead addr (f (s.image.bytes.read i)) s
  else afterRead addr (f (Config.draw8 s.draws)) { s with draws := s.draws + 1 }

/-- A bus read that returns `image[i]`. -/
def romReply (addr : Addr) (i : Nat) (s : State) : State := romReplyVia id addr i s

/-- The state with another mapper record. -/
def withMapper (m : Mapper) (s : State) : State := { s with bus := { s.bus with mapper := m } }

/-- The bank a data byte selects in a `3F` image of `n` bytes (R177). Where the image has no bank, which R177 does not
cover, it is free (log entry 17). -/
def bankOf (n : Nat) (d : Byte) : Nat := if n < 2048 then Config.emodZero d.toNat else d.toNat % (n / 2048)

/-- The state with a log entry appended (R484): its kind, the value `n` a rule names, and the address `a` (log entry 27). -/
def logged (k : AnomalyKind) (n : Nat) (addr : Addr) (s : State) : State :=
  { s with anomalies := s.anomalies ++ [⟨k, n, addr.toNat % 8192⟩] }

/-- `f` applied `n` times. -/
def times {α : Type} (f : α → α) : Nat → α → α
  | 0, a => a
  | n + 1, a => times f n (f a)

/-- The request of a core event (R4). -/
def requestOf : CoreEvent → Request
  | .rd addr => .read addr
  | .wr addr d => .write addr d
  | .run n => .event 0x05 (.count n)

/-- The byte a request answered with, if it was a bus read. -/
def repliedBytes : Reply → List Byte
  | .byte v => [v]
  | _ => []

/-- Core events executed one after the other as requests of their own: the bytes read, in order, and the last state. -/
def runRequests : List CoreEvent → State → Option (List Byte × State)
  | [], s => some ([], s)
  | e :: rest, s =>
    match operationOf (requestOf e) s with
    | none => none
    | some i =>
      match exec i s with
      | .next t =>
        match runRequests rest t with
        | some r => some (repliedBytes t.reply ++ r.1, r.2)
        | none => none
      | _ => none

/-- `n` times `STEP`, each with the same instruction. -/
def stepTimes (events : List CoreEvent) : Nat → State → Option State
  | 0, s => some s
  | n + 1, s =>
    match exec (.step events) s with
    | .next t => stepTimes events n t
    | _ => none

/-- The write registers of the video chip with their selects `a[5:0]`, in the order of R94. -/
def tiaWriteTable : List ((Addr → Byte → Instr) × Nat) :=
  [(Instr.vsync, 0x00), (Instr.vblank, 0x01), (Instr.wsync, 0x02), (Instr.rsync, 0x03),
   (Instr.nusiz0, 0x04), (Instr.nusiz1, 0x05), (Instr.colup0, 0x06), (Instr.colup1, 0x07),
   (Instr.colupf, 0x08), (Instr.colubk, 0x09), (Instr.ctrlpf, 0x0A), (Instr.refp0, 0x0B),
   (Instr.refp1, 0x0C), (Instr.pf0, 0x0D), (Instr.pf1, 0x0E), (Instr.pf2, 0x0F)] ++
  [(Instr.resp0, 0x10), (Instr.resp1, 0x11), (Instr.resm0, 0x12), (Instr.resm1, 0x13),
   (Instr.resbl, 0x14), (Instr.audc0, 0x15), (Instr.audc1, 0x16), (Instr.audf0, 0x17),
   (Instr.audf1, 0x18), (Instr.audv0, 0x19), (Instr.audv1, 0x1A), (Instr.grp0, 0x1B), (Instr.grp1, 0x1C),
   (Instr.enam0, 0x1D), (Instr.enam1, 0x1E), (Instr.enabl, 0x1F)] ++
  [(Instr.hmp0, 0x20), (Instr.hmp1, 0x21), (Instr.hmm0, 0x22), (Instr.hmm1, 0x23), (Instr.hmbl, 0x24),
   (Instr.vdelp0, 0x25), (Instr.vdelp1, 0x26), (Instr.vdelbl, 0x27), (Instr.resmp0, 0x28),
   (Instr.resmp1, 0x29), (Instr.hmove, 0x2A), (Instr.hmclr, 0x2B), (Instr.cxclr, 0x2C),
   (Instr.tiaw2D, 0x2D), (Instr.tiaw2E, 0x2E), (Instr.tiaw2F, 0x2F)] ++
  [(Instr.tiaw30, 0x30), (Instr.tiaw31, 0x31), (Instr.tiaw32, 0x32), (Instr.tiaw33, 0x33),
   (Instr.tiaw34, 0x34), (Instr.tiaw35, 0x35), (Instr.tiaw36, 0x36), (Instr.tiaw37, 0x37),
   (Instr.tiaw38, 0x38), (Instr.tiaw39, 0x39), (Instr.tiaw3A, 0x3A), (Instr.tiaw3B, 0x3B),
   (Instr.tiaw3C, 0x3C), (Instr.tiaw3D, 0x3D), (Instr.tiaw3E, 0x3E), (Instr.tiaw3F, 0x3F)]

/-- The read registers of the video chip with their selects `a[3:0]`, in the order of R95. -/
def tiaReadTable : List ((Addr → Instr) × Nat) :=
  [(Instr.cxm0p, 0x0), (Instr.cxm1p, 0x1), (Instr.cxp0fb, 0x2), (Instr.cxp1fb, 0x3), (Instr.cxm0fb, 0x4),
   (Instr.cxm1fb, 0x5), (Instr.cxblpf, 0x6), (Instr.cxppmm, 0x7), (Instr.inpt0, 0x8), (Instr.inpt1, 0x9),
   (Instr.inpt2, 0xA), (Instr.inpt3, 0xB), (Instr.inpt4, 0xC), (Instr.inpt5, 0xD), (Instr.tiarE, 0xE),
   (Instr.tiarF, 0xF)]

/-- The lengths of the images a variant fits (R141). That `Unknown` fits every length from 1 on, also one that names no other
variant, is log entry 21. -/
def fits (v : Tag) (n : Nat) : Prop :=
  match v with
  | .unknown => 1 ≤ n
  | .f8 => n = 8192
  | .f6 => n = 16384
  | .f4 => n = 32768
  | .fa => n = 12288
  | .f0 => n = 65536
  | .e0 => n = 8192
  | .m3f => n = 8192
  | .fe => n = 8192
  | .e7 => n = 16384
  | .dpc => 10240 ≤ n
  | .ar66 => n = 8448
  | .c0 => n = 2048 ∨ n = 4096

end Sys2Proof.Spec

open Sys2Proof Sys2Proof.Machine Sys2Proof.Spec

/-! ## Encoding, decoding, the step -/

/-- Under every tag the decoder reads a request as `i` exactly when `i` is well-formed and is encoded as that request
(R91, R92, R97, R98, R102): no operand bit is dropped, no two rows overlap, and every bus word has a row. That `3F.BANK` does
not overlap a `TIAW` row, but stands in its place, is log entry 16. The events have the codes of R98 and are well-formed
under every tag, but for the arms of `MAPPER.TICK` and `MAPPER.INIT`, which the active tag picks (R143, R145; log entry
19). -/
def Obligations.DecodeExactlyWellFormed : Prop :=
  (∀ tag r i, decode tag r = some i ↔ i.wellFormed tag = true ∧ encode i = r) ∧
  (∀ tag addr acc, ∃ i, decode tag (busRequest addr acc) = some i) ∧
  (∀ p ∈ [(Instr.tiaTick, 0x00), (Instr.timerTick, 0x01), (Instr.apuTick, 0x03), (Instr.cycle, 0x04),
      (Instr.frameReady, 0x07), (Instr.readFb, 0x08), (Instr.snapshotSave, 0x0B), (Instr.inputSample, 0x11)],
    encode p.1 = .event p.2 .none ∧ ∀ tag, p.1.wellFormed tag = true) ∧
  (∀ n events record snap image format mode0 mode1 addr isWrite lines, ∀ p ∈ [
      (Instr.run n, 0x05, Operand.count n), (Instr.step events, 0x06, .core events), (Instr.readSound n, 0x09, .count n),
      (Instr.setInput record, 0x0A, .input record), (Instr.snapshotLoad snap image, 0x0C, .snapshot snap image),
      (Instr.powerOn image format mode0 mode1, 0x0D, .power image format mode0 mode1),
      (Instr.mapperResolve addr isWrite, 0x0E, .access addr isWrite), (Instr.formatClassify lines, 0x10, .counts lines)],
    encode p.1 = .event p.2.1 p.2.2 ∧ ∀ tag, p.1.wellFormed tag = true) ∧
  (∀ p ∈ [(Instr.feTick, 0x02, Tag.fe), (Instr.dpcTick, 0x02, .dpc), (Instr.arTick, 0x02, .ar66),
      (Instr.ar66Initialize, 0x0F, .ar66)],
    encode p.1 = .event p.2.1 .none ∧ ∀ tag, p.1.wellFormed tag = true ↔ tag = p.2.2) ∧
  (encode .mapperTick = .event 0x02 .none ∧
    ∀ tag, Instr.mapperTick.wellFormed tag = true ↔ tag ≠ .fe ∧ tag ≠ .dpc ∧ tag ≠ .ar66) ∧
  (encode .mapperInit = .event 0x0F .none ∧ ∀ tag, Instr.mapperInit.wellFormed tag = true ↔ tag ≠ .ar66)

/-- A bus word says which row it is only together with the active tag (R97, R100), which a lone table word does not carry:
it is read under the tag that log entry 18, the model's choice, picks, `F8` for the hotspot, `DPC` for its register, and a
tag other than `3F` for the TIA writes. Under that tag, words written out from the tables of R94 to R98: `WR VSYNC, 0x02`,
`WR PF1, 0xAA`, `RD CXPPMM`, `RD` of RAM byte 5, `WR SWACNT, 0x0F`, `RD INTIM`, `WR TIM64T, 0x10`, an F8 hotspot read, `DPC.WR.TOP`, and the event `CYCLE`. -/
def Obligations.DecodeSpecWords : Prop :=
  decodeTableWord 24 0x200002 = some (.vsync 0x0000 0x02) ∧
  decodeTableWord 24 0x200EAA = some (.pf1 0x000E 0xAA) ∧
  decodeTableWord 24 0x000700 = some (.cxppmm 0x0007) ∧
  decodeTableWord 24 0x008500 = some (.ramRd 0x0085) ∧
  decodeTableWord 24 0x22810F = some (.swacntWr 0x0281 0x0F) ∧
  decodeTableWord 24 0x028400 = some (.intim 0x0284) ∧
  decodeTableWord 24 0x229610 = some (.tim64t 0x0296 0x10) ∧
  decodeTableWord 24 0x1FF900 = some (.f8Bank1 0x1FF9 .rd) ∧
  decodeTableWord 24 0x304205 = some (.dpcWrTop 0x1042 0x05) ∧
  decodeTableWord 8 0x04 = some .cycle

/-- One step takes the oldest request and executes the operation it stands for, with the request removed; with no request
waiting nothing happens; event codes above 0x11 are not operations (R3, R98, R99). That requests wait in `inbox` and that
a step with none is idle are the model's choice (log entry 1). -/
def Obligations.StepRunsDecodedOperation : Prop :=
  (∀ s i rest, i.wellFormed (servingTag (encode i) s) = true → s.inbox = encode i :: rest →
    step s = exec i { s with inbox := rest }) ∧
  (∀ s, s.inbox = [] → step s = .next s) ∧
  (∀ s code op rest, 0x11 < code.toNat → s.inbox = .event code op :: rest → step s = .refused .notAnOperation)

/-! ## The bus -/

/-- Every bus transaction is one row's operation, and that row's meaning is the whole transaction of R121 and R122:
detection, snoop hook, the register of the region, the `last...` fields. A row is a read or a write, and which row serves an
address of the video chip, the ports or the timer is said by the region bits and the select of R91, R94 to R96 and R360,
the other bits being ignored. Two things are the model's choice, no rule of the spec: that one row's meaning is the whole
transaction (log entry 7), and that under `3F` a write to 0x0000..0x003F is the row `3F.BANK` in place of the `TIAW` row
(log entry 16, DEDUCED). R91, R92 and R102 keep the `TIAW` row beside the snoop there; `3F.BANK` does both. -/
def Obligations.RowsMakeTheBusTransaction : Prop :=
  (∀ addr acc s, s.fatal = none →
    ∃ i, operationOf (busRequest addr acc) s = some i ∧ exec i s = .next (busTransaction addr acc s)) ∧
  (∀ p ∈ tiaWriteTable, ∀ tag addr d, encode (p.1 addr d) = .write addr d ∧ ((p.1 addr d).wellFormed tag = true ↔
    addr.getLsbD 12 = false ∧ addr.getLsbD 7 = false ∧ addr.toNat % 64 = p.2 ∧
      ¬ (tag = .m3f ∧ addr.toNat % 8192 ≤ 0x003F))) ∧
  (∀ p ∈ tiaReadTable, ∀ tag addr, encode (p.1 addr) = .read addr ∧ ((p.1 addr).wellFormed tag = true ↔
    addr.getLsbD 12 = false ∧ addr.getLsbD 7 = false ∧ addr.toNat % 16 = p.2)) ∧
  (∀ p ∈ [(Instr.swchaRd, Instr.swchaWr, 0), (Instr.swacntRd, Instr.swacntWr, 1), (Instr.swchbRd, Instr.swchbWr, 2),
      (Instr.swbcntRd, Instr.swbcntWr, 3)],
    ∀ tag addr d, encode (p.1 addr) = .read addr ∧ encode (p.2.1 addr d) = .write addr d ∧
      ((p.1 addr).wellFormed tag = true ↔ addr.getLsbD 12 = false ∧ addr.getLsbD 9 = true ∧
        addr.getLsbD 7 = true ∧ addr.getLsbD 2 = false ∧ addr.toNat % 4 = p.2.2) ∧
      ((p.2.1 addr d).wellFormed tag = true ↔ addr.getLsbD 12 = false ∧ addr.getLsbD 9 = true ∧
        addr.getLsbD 7 = true ∧ addr.getLsbD 2 = false ∧ addr.toNat % 4 = p.2.2)) ∧
  (∀ p ∈ [(Instr.intim, false), (Instr.timint, true)],
    ∀ tag addr, encode (p.1 addr) = .read addr ∧ ((p.1 addr).wellFormed tag = true ↔ addr.getLsbD 12 = false ∧
      addr.getLsbD 9 = true ∧ addr.getLsbD 7 = true ∧ addr.getLsbD 2 = true ∧ addr.getLsbD 0 = p.2)) ∧
  (∀ p ∈ [(Instr.tim1t, 0), (Instr.tim8t, 1), (Instr.tim64t, 2), (Instr.t1024t, 3)],
    ∀ tag addr d, encode (p.1 addr d) = .write addr d ∧ ((p.1 addr d).wellFormed tag = true ↔ addr.getLsbD 12 = false ∧
      addr.getLsbD 9 = true ∧ addr.getLsbD 7 = true ∧ addr.getLsbD 2 = true ∧ addr.getLsbD 4 = true ∧
      addr.toNat % 4 = p.2)) ∧
  (∀ tag addr d, encode (.edgectl addr d) = .write addr d ∧ ((Instr.edgectl addr d).wellFormed tag = true ↔
    addr.getLsbD 12 = false ∧ addr.getLsbD 9 = true ∧ addr.getLsbD 7 = true ∧ addr.getLsbD 2 = true ∧
    addr.getLsbD 4 = false))

/-- No bus operation moves the beam, the clock or the picture, takes input, or raises an error; each leaves the `last...`
fields as R121 and R122 say, the previous write's address after a read (R121, R122, R130, R343, R443, R481). -/
def Obligations.BusOperationsKeepTheBeam : Prop :=
  ∀ addr acc s i t, operationOf (busRequest addr acc) s = some i → exec i s = .next t →
    t.cycles = s.cycles ∧ t.tia.x = s.tia.x ∧ t.tia.fb = s.tia.fb ∧ t.tia.pfActive = s.tia.pfActive ∧
    t.apu.buf = s.apu.buf ∧ t.apu.acc = s.apu.acc ∧ t.input = s.input ∧ t.image = s.image ∧ t.fatal = none ∧
    t.bus.lastAccessAddr = addr ∧
    t.bus.lastReadAddr = (if acc.isWrite then s.bus.lastReadAddr else addr) ∧
    t.bus.lastWriteAddr = (if acc.isWrite then addr else s.bus.lastWriteAddr)

/-- After `fatal` a bus operation is refused, `STEP` does nothing, the read-only host operations still answer, and `RUN`
is stuck (R130, R440, R481, U15; the stop of `RUN` is log entry 8). -/
def Obligations.AfterFatal : Prop :=
  ∀ s, s.fatal ≠ none →
    (∀ addr acc, ∃ i, operationOf (busRequest addr acc) s = some i ∧ exec i s = .refused .afterFatal) ∧
    (∀ events, exec (.step events) s = .next s) ∧
    (∃ t, exec .frameReady s = .next t ∧ t.reply = .flag s.tia.frameReady) ∧
    (∃ t, exec .readFb s = .next t ∧ t.reply = .framebuffer s.tia.fb) ∧
    (∀ n, ∃ t, exec (.readSound n) s = .next t) ∧
    (∀ n, exec (.run n) s = .fault .stuckAfterFatal)

/-! ## Detection -/

/-- `detectRule` answers a variant exactly in the rows of R148, and `MAPPER.RESOLVE` installs it fresh in place of
`Unknown`, for images above 4096 bytes only, changing nothing else (R146, R148).
What comes before the dispatch of an access: `MAPPER.RESOLVE`, then for a write, if the variant that is active now is
`3F` and the 13-bit address is at most 0x003F, the bank switch or, behind the guard, a log entry (R121 to R123, R146,
R177). With an image of no banks, the bank is free (log entry 17). What the log entry holds is log entry 27. -/
def Obligations.BeforeTheDispatch : Prop :=
  ((∀ n a isWrite prevW v, detectRule n a isWrite prevW = some v ↔
    (n = 8192 ∧ 0x1FF8 ≤ a ∧ a ≤ 0x1FF9 ∧ v = .f8) ∨
    (n = 8192 ∧ isWrite = true ∧ a = 0x003F ∧ prevW ≠ 0x003E ∧ prevW ≠ 0x0040 ∧ v = .m3f) ∨
    (n = 12288 ∧ 0x1FF8 ≤ a ∧ a ≤ 0x1FFA ∧ v = .fa) ∨
    (n = 16384 ∧ 0x1FF6 ≤ a ∧ a ≤ 0x1FF9 ∧ v = .f6) ∨
    (n = 32768 ∧ 0x1FF4 ≤ a ∧ a ≤ 0x1FFB ∧ v = .f4) ∨
    (n = 65536 ∧ a = 0x1FF0 ∧ v = .f0)) ∧
  (∀ addr isWrite s, s.fatal = none →
    exec (.mapperResolve addr isWrite) s = .next { s with
      reply := .none
      bus := { s.bus with
        mapper :=
          if s.bus.mapper = .unknown ∧ 4096 < s.image.size then
            match detectRule s.image.size (a13 addr) isWrite (a13 s.bus.lastWriteAddr) with
            | some v => fresh v
            | none => .unknown
          else s.bus.mapper } })) ∧
  (∀ (addr : Addr) (acc : Access) (s : State), s.fatal = none → ∃ r, exec (.mapperResolve addr acc.isWrite) s = .next r ∧
    match acc with
    | .rd => opened addr .rd s = { r with reply := s.reply }
    | .wr d => opened addr (.wr d) s =
        match r.bus.mapper with
        | .m3f _ =>
          if a13 addr ≤ 0x003F then
            if a13 s.bus.lastWriteAddr ≠ 0x003E ∧ a13 s.bus.lastWriteAddr ≠ 0x0040 then
              withMapper (.m3f (bankOf s.image.size d)) { r with reply := s.reply }
            else logged .heuristicAmbiguity (a13 addr) addr { r with reply := s.reply }
          else { r with reply := s.reply }
        | _ => { r with reply := s.reply })

/-- Once a variant is active, no operation but `POWERON` and `SNAPSHOT.LOAD` replaces it by another variant (R22, R146,
R536). -/
def Obligations.DetectionIsSticky : Prop :=
  ∀ i s t, (∀ image format mode0 mode1, i ≠ .powerOn image format mode0 mode1) →
    (∀ snap image, i ≠ .snapshotLoad snap image) → s.bus.mapper.tag ≠ .unknown → exec i s = .next t →
    t.bus.mapper.tag = s.bus.mapper.tag

/-! ## RAM -/

/-- `RAM.RD` returns the byte at `a[6:0]` and `RAM.WR` stores it, changing no other byte and no other state of its own; a
later read through any mirror returns it; the mirrors are the addresses with bit 12 clear, bit 9 clear, bit 7 set
(R125, R126). -/
def Obligations.RamRows : Prop :=
  (∀ tag addr d, ((Instr.ramRd addr).wellFormed tag = true ↔
      addr.getLsbD 12 = false ∧ addr.getLsbD 9 = false ∧ addr.getLsbD 7 = true) ∧
    ((Instr.ramWr addr d).wellFormed tag = true ↔
      addr.getLsbD 12 = false ∧ addr.getLsbD 9 = false ∧ addr.getLsbD 7 = true)) ∧
  (∀ addr s, s.fatal = none →
    exec (.ramRd addr) s = .next (afterRead addr (s.bus.ram.read (addr.toNat % 128)) (opened addr .rd s))) ∧
  (∀ addr d s o, s.fatal = none → o = opened addr (.wr d) s → ∃ ram,
    exec (.ramWr addr d) s = .next (afterWrite addr { o with bus := { o.bus with ram := ram } }) ∧
    (∀ k, ram.read k = if k = addr.toNat % 128 then d else s.bus.ram.read k) ∧
    (∀ addr' t, addr'.toNat % 128 = addr.toNat % 128 →
      t = afterWrite addr { o with bus := { o.bus with ram := ram } } →
      ∃ u, exec (.ramRd addr') t = .next u ∧ u.reply = .byte d))

/-! ## Write registers of the video chip -/

/-- `VSYNC`: a falling edge completes the frame and resets the line counter to the top border (R242). -/
def Obligations.VsyncWrite : Prop :=
  ∀ addr d s o, s.fatal = none → o = opened addr (.wr d) s →
    exec (.vsync addr d) s = .next (afterWrite addr { o with
      tia :=
        if o.tia.vsync = true ∧ d.getLsbD 1 = false then
          { o.tia with
            lastFrameLines := o.tia.y - (match o.tvFormat with | .ntsc => -37 | .pal => -45)
            frameReady := true
            y := (match o.tvFormat with | .ntsc => -37 | .pal => -45)
            vsync := false }
        else { o.tia with vsync := d.getLsbD 1 } })

/-- `VBLANK`: the three flags, the sticky latches, the paddle dump and its release (R243). -/
def Obligations.VblankWrite : Prop :=
  ∀ addr d s o, s.fatal = none → o = opened addr (.wr d) s →
    exec (.vblank addr d) s = .next (afterWrite addr { o with
      tia := { o.tia with
        vblankBlank := d.getLsbD 1
        vblankLatch := d.getLsbD 6
        vblankDump := d.getLsbD 7 }
      io := { o.io with
        inptLatch0 := if d.getLsbD 6 then o.io.inptLatch0 else true
        inptLatch1 := if d.getLsbD 6 then o.io.inptLatch1 else true
        paddleCharged0 := if d.getLsbD 7 then false else o.io.paddleCharged0
        paddleCharged1 := if d.getLsbD 7 then false else o.io.paddleCharged1
        paddleCharged2 := if d.getLsbD 7 then false else o.io.paddleCharged2
        paddleCharged3 := if d.getLsbD 7 then false else o.io.paddleCharged3
        paddleStart := if d.getLsbD 7 = false ∧ o.tia.vblankDump = true then o.cycles else o.io.paddleStart } })

/-- The strobes: `WSYNC`, `RSYNC`, the position strobes, `HMOVE`, `HMCLR` (R244, R245, R258 to R262, R284, R285). The data
byte has no effect. The log of `RSYNC` holds the 0x03 of R245 and, by R99, the address; both is log entry 27. -/
def Obligations.TiaStrobes : Prop :=
  ∀ addr d s o, s.fatal = none → o = opened addr (.wr d) s →
    exec (.wsync addr d) s = .next (afterWrite addr { o with tia := { o.tia with waitHBlank := true } }) ∧
    exec (.rsync addr d) s = .next (afterWrite addr (logged .unimplementedRegister 0x03 addr o)) ∧
    exec (.resp0 addr d) s = .next (afterWrite addr { o with tia := { o.tia with p0 := { o.tia.p0 with
      pos := if o.tia.x < 0 then 3 else ((o.tia.x + 5) % 160).toNat } } }) ∧
    exec (.resp1 addr d) s = .next (afterWrite addr { o with tia := { o.tia with p1 := { o.tia.p1 with
      pos := if o.tia.x < 0 then 3 else ((o.tia.x + 5) % 160).toNat } } }) ∧
    exec (.resm0 addr d) s = .next (afterWrite addr { o with tia := { o.tia with m0 := { o.tia.m0 with
      pos := if o.tia.x < 0 then 2 else ((o.tia.x + 4) % 160).toNat } } }) ∧
    exec (.resm1 addr d) s = .next (afterWrite addr { o with tia := { o.tia with m1 := { o.tia.m1 with
      pos := if o.tia.x < 0 then 2 else ((o.tia.x + 4) % 160).toNat } } }) ∧
    exec (.resbl addr d) s = .next (afterWrite addr { o with tia := { o.tia with bl := { o.tia.bl with
      pos := if o.tia.x < 0 then 2 else ((o.tia.x + 4) % 160).toNat } } }) ∧
    exec (.hmove addr d) s = .next (afterWrite addr { o with tia := { o.tia with
      hmovePending := true
      hmoveLate := decide (0 ≤ o.tia.x) } }) ∧
    exec (.hmclr addr d) s = .next (afterWrite addr { o with tia := { o.tia with
      p0 := { o.tia.p0 with hm := 0 }
      p1 := { o.tia.p1 with hm := 0 }
      m0 := { o.tia.m0 with hm := 0 }
      m1 := { o.tia.m1 with hm := 0 }
      bl := { o.tia.bl with hm := 0 } } })

/-- The sound registers take their field of the data byte and nothing else changes; the generator state is not reset
(R263 to R268). -/
def Obligations.SoundRegisterWrites : Prop :=
  ∀ addr d s o, s.fatal = none → o = opened addr (.wr d) s →
    exec (.audc0 addr d) s = .next (afterWrite addr { o with apu := { o.apu with
      ch0 := { o.apu.ch0 with audc := d.extractLsb' 0 4 } } }) ∧
    exec (.audc1 addr d) s = .next (afterWrite addr { o with apu := { o.apu with
      ch1 := { o.apu.ch1 with audc := d.extractLsb' 0 4 } } }) ∧
    exec (.audf0 addr d) s = .next (afterWrite addr { o with apu := { o.apu with
      ch0 := { o.apu.ch0 with audf := d.extractLsb' 0 5 } } }) ∧
    exec (.audf1 addr d) s = .next (afterWrite addr { o with apu := { o.apu with
      ch1 := { o.apu.ch1 with audf := d.extractLsb' 0 5 } } }) ∧
    exec (.audv0 addr d) s = .next (afterWrite addr { o with apu := { o.apu with
      ch0 := { o.apu.ch0 with audv := d.extractLsb' 0 4 } } }) ∧
    exec (.audv1 addr d) s = .next (afterWrite addr { o with apu := { o.apu with
      ch1 := { o.apu.ch1 with audv := d.extractLsb' 0 4 } } })

/-- Player colours, reflection, delay flags and enables: one byte or one bit each; `CXCLR` makes all fifteen collision
latches false at once, whatever the data byte is (R248, R249, R253, R254, R271 to R273, R279, R280, R286). -/
def Obligations.ColourEnableAndClearWrites : Prop :=
  ∀ addr d s o, s.fatal = none → o = opened addr (.wr d) s →
    exec (.colup0 addr d) s = .next (afterWrite addr { o with tia := { o.tia with p0 := { o.tia.p0 with colu := d } } }) ∧
    exec (.colup1 addr d) s = .next (afterWrite addr { o with tia := { o.tia with p1 := { o.tia.p1 with colu := d } } }) ∧
    exec (.refp0 addr d) s = .next (afterWrite addr { o with tia := { o.tia with
      p0 := { o.tia.p0 with refl := d.getLsbD 3 } } }) ∧
    exec (.refp1 addr d) s = .next (afterWrite addr { o with tia := { o.tia with
      p1 := { o.tia.p1 with refl := d.getLsbD 3 } } }) ∧
    exec (.enam0 addr d) s = .next (afterWrite addr { o with tia := { o.tia with
      m0 := { o.tia.m0 with enabled := d.getLsbD 1 } } }) ∧
    exec (.enam1 addr d) s = .next (afterWrite addr { o with tia := { o.tia with
      m1 := { o.tia.m1 with enabled := d.getLsbD 1 } } }) ∧
    exec (.enabl addr d) s = .next (afterWrite addr { o with tia := { o.tia with
      bl := { o.tia.bl with enNew := d.getLsbD 1 } } }) ∧
    exec (.vdelp0 addr d) s = .next (afterWrite addr { o with tia := { o.tia with
      p0 := { o.tia.p0 with vdel := d.getLsbD 0 } } }) ∧
    exec (.vdelp1 addr d) s = .next (afterWrite addr { o with tia := { o.tia with
      p1 := { o.tia.p1 with vdel := d.getLsbD 0 } } }) ∧
    exec (.cxclr addr d) s = .next (afterWrite addr { o with tia := { o.tia with cx :=
      ⟨false, false, false, false, false, false, false, false, false, false, false, false, false, false, false⟩ } })

/-- Size, playfield, motion and graphics registers: each changes its own fields only. `PF0`, `PF1`, `PF2` change the
to-load register only, and in it only their own pattern bits, in the bit order of R255 to R257; a shape write loads the
other player's delayed latch, and `GRP1` the ball's too (R246, R247, R250 to R252, R255 to R257, R269, R270, R274 to R278,
R281 to R283). -/
def Obligations.ShapeMotionAndGraphicsWrites : Prop :=
  (∀ addr d s o, s.fatal = none → o = opened addr (.wr d) s →
    exec (.nusiz0 addr d) s = .next (afterWrite addr { o with tia := { o.tia with
      p0 := { o.tia.p0 with nusiz := d.extractLsb' 0 3 }
      m0 := { o.tia.m0 with size := d.extractLsb' 4 2 } } }) ∧
    exec (.nusiz1 addr d) s = .next (afterWrite addr { o with tia := { o.tia with
      p1 := { o.tia.p1 with nusiz := d.extractLsb' 0 3 }
      m1 := { o.tia.m1 with size := d.extractLsb' 4 2 } } }) ∧
    exec (.colupf addr d) s = .next (afterWrite addr { o with tia := { o.tia with colupf := d } }) ∧
    exec (.colubk addr d) s = .next (afterWrite addr { o with tia := { o.tia with colubk := d } }) ∧
    exec (.ctrlpf addr d) s = .next (afterWrite addr { o with tia := { o.tia with
      pfReflect := d.getLsbD 0
      pfScore := d.getLsbD 1
      pfPriority := d.getLsbD 2
      bl := { o.tia.bl with size := d.extractLsb' 4 2 } } }) ∧
    exec (.hmp0 addr d) s = .next (afterWrite addr { o with tia := { o.tia with
      p0 := { o.tia.p0 with hm := d.extractLsb' 4 4 } } }) ∧
    exec (.hmp1 addr d) s = .next (afterWrite addr { o with tia := { o.tia with
      p1 := { o.tia.p1 with hm := d.extractLsb' 4 4 } } }) ∧
    exec (.hmm0 addr d) s = .next (afterWrite addr { o with tia := { o.tia with
      m0 := { o.tia.m0 with hm := d.extractLsb' 4 4 } } }) ∧
    exec (.hmm1 addr d) s = .next (afterWrite addr { o with tia := { o.tia with
      m1 := { o.tia.m1 with hm := d.extractLsb' 4 4 } } }) ∧
    exec (.hmbl addr d) s = .next (afterWrite addr { o with tia := { o.tia with
      bl := { o.tia.bl with hm := d.extractLsb' 4 4 } } })) ∧
  (∀ addr d s o, s.fatal = none → o = opened addr (.wr d) s →
    (∃ pf, exec (.pf0 addr d) s = .next (afterWrite addr { o with tia := { o.tia with pfToLoad := pf } }) ∧
      ∀ k, k < 20 → pf.getLsbD k = if k < 4 then d.getLsbD (4 + k) else o.tia.pfToLoad.getLsbD k) ∧
    (∃ pf, exec (.pf1 addr d) s = .next (afterWrite addr { o with tia := { o.tia with pfToLoad := pf } }) ∧
      ∀ k, k < 20 → pf.getLsbD k =
        if 4 ≤ k ∧ k < 12 then d.getLsbD (7 - (k - 4)) else o.tia.pfToLoad.getLsbD k) ∧
    (∃ pf, exec (.pf2 addr d) s = .next (afterWrite addr { o with tia := { o.tia with pfToLoad := pf } }) ∧
      ∀ k, k < 20 → pf.getLsbD k = if 12 ≤ k then d.getLsbD (k - 12) else o.tia.pfToLoad.getLsbD k)) ∧
  (∀ addr d s o, s.fatal = none → o = opened addr (.wr d) s →
    exec (.grp0 addr d) s = .next (afterWrite addr { o with tia := { o.tia with
      p0 := { o.tia.p0 with grpNew := d }
      p1 := { o.tia.p1 with grpOld := o.tia.p1.grpNew } } }) ∧
    exec (.grp1 addr d) s = .next (afterWrite addr { o with tia := { o.tia with
      p1 := { o.tia.p1 with grpNew := d }
      p0 := { o.tia.p0 with grpOld := o.tia.p0.grpNew }
      bl := { o.tia.bl with enOld := o.tia.bl.enNew } } }) ∧
    exec (.vdelbl addr d) s = .next (afterWrite addr { o with tia := { o.tia with
      bl := { o.tia.bl with vdel := d.getLsbD 0 } } }) ∧
    exec (.resmp0 addr d) s = .next (afterWrite addr { o with tia := { o.tia with
      m0 := { o.tia.m0 with resmp := d.getLsbD 1 } } }) ∧
    exec (.resmp1 addr d) s = .next (afterWrite addr { o with tia := { o.tia with
      m1 := { o.tia.m1 with resmp := d.getLsbD 1 } } }))

/-- The unassigned selects: a write changes nothing but the log, a read returns some byte and logs (R99, R287, R304). The
`info` that is logged holds the select, as R287 and R304 say, and the address, as R99 says; to keep both is the model's
choice (log entry 27). -/
def Obligations.UnassignedTiaRegisters : Prop :=
  (∀ p ∈ [(Instr.tiaw2D, 0x2D), (Instr.tiaw2E, 0x2E), (Instr.tiaw2F, 0x2F), (Instr.tiaw30, 0x30), (Instr.tiaw31, 0x31),
      (Instr.tiaw32, 0x32), (Instr.tiaw33, 0x33), (Instr.tiaw34, 0x34), (Instr.tiaw35, 0x35), (Instr.tiaw36, 0x36),
      (Instr.tiaw37, 0x37), (Instr.tiaw38, 0x38), (Instr.tiaw39, 0x39), (Instr.tiaw3A, 0x3A), (Instr.tiaw3B, 0x3B),
      (Instr.tiaw3C, 0x3C), (Instr.tiaw3D, 0x3D), (Instr.tiaw3E, 0x3E), (Instr.tiaw3F, 0x3F)],
    ∀ addr d s, s.fatal = none →
      exec (p.1 addr d) s = .next (afterWrite addr (logged .unimplementedRegister p.2 addr (opened addr (.wr d) s)))) ∧
  (∀ p ∈ [(Instr.tiarE, 0xE), (Instr.tiarF, 0xF)],
    ∀ addr s, s.fatal = none →
      exec (p.1 addr) s = .next (drawReply addr (logged .unimplementedRegister p.2 addr (opened addr .rd s))))

/-! ## Read registers of the video chip -/

/-- A collision read returns its two latches in bits 7 and 6 and changes no state but the count of draws (R288, R290 to
R297). -/
def Obligations.CollisionReads : Prop :=
  ∀ addr s, s.fatal = none →
    (∀ p ∈ [(Instr.cxm0p, s.tia.cx.m0p1, s.tia.cx.m0p0), (Instr.cxm1p, s.tia.cx.m1p0, s.tia.cx.m1p1),
        (Instr.cxp0fb, s.tia.cx.p0pf, s.tia.cx.p0bl), (Instr.cxp1fb, s.tia.cx.p1pf, s.tia.cx.p1bl),
        (Instr.cxm0fb, s.tia.cx.m0pf, s.tia.cx.m0bl), (Instr.cxm1fb, s.tia.cx.m1pf, s.tia.cx.m1bl),
        (Instr.cxppmm, s.tia.cx.p0p1, s.tia.cx.m0m1)],
      ∃ v n, exec (p.1 addr) s = .next (afterRead addr v { opened addr .rd s with draws := n }) ∧
        v.getLsbD 7 = p.2.1 ∧ v.getLsbD 6 = p.2.2) ∧
    (∃ v n, exec (.cxblpf addr) s = .next (afterRead addr v { opened addr .rd s with draws := n }) ∧
      v.getLsbD 7 = s.tia.cx.blpf)

/-- `INPT0` to `INPT5` return the line in bit 7, by the port's controller mode, and change no state but the count of
draws; an undriven line is free (R298 to R303). -/
def Obligations.InputLineReads : Prop :=
  ∀ addr s, s.fatal = none →
    (∀ p ∈ [(Instr.inpt0, s.mode0, s.io.paddleCharged0, Port.port0, Column.c0),
        (Instr.inpt1, s.mode0, s.io.paddleCharged1, Port.port0, Column.c1),
        (Instr.inpt2, s.mode1, s.io.paddleCharged2, Port.port1, Column.c0),
        (Instr.inpt3, s.mode1, s.io.paddleCharged3, Port.port1, Column.c1)],
      ∃ v n, exec (p.1 addr) s = .next (afterRead addr v { opened addr .rd s with draws := n }) ∧
        (p.2.1 = .paddle → v.getLsbD 7 = (p.2.2.1 && !s.tia.vblankDump)) ∧
        (p.2.1 = .keypad → v.getLsbD 7 = keypadColumn s.io s.input p.2.2.2.1 p.2.2.2.2)) ∧
    (∀ p ∈ [(Instr.inpt4, s.mode0, s.io.inptLatch0, s.input.joy0.button, Port.port0),
        (Instr.inpt5, s.mode1, s.io.inptLatch1, s.input.joy1.button, Port.port1)],
      ∃ v n, exec (p.1 addr) s = .next (afterRead addr v { opened addr .rd s with draws := n }) ∧
        (p.2.1 = .joystick → v.getLsbD 7 = if s.tia.vblankLatch then p.2.2.1 else !p.2.2.2.1) ∧
        (p.2.1 = .keypad → v.getLsbD 7 = keypadColumn s.io s.input p.2.2.2.2 .c2) ∧
        (p.2.1 = .paddle → v.getLsbD 7 = true))

/-! ## Ports and timer -/

/-- The pins of port A by controller mode, the pins of port B, and a keypad column: low exactly when some row that is
selected (an output driven low) has its key of that column pressed (R381, R383, R386). -/
def Obligations.InputPins : Prop :=
  (∀ s, s.mode0 = .joystick →
    (pinsA s).getLsbD 7 = (!s.input.joy0.right) ∧ (pinsA s).getLsbD 6 = (!s.input.joy0.left) ∧
    (pinsA s).getLsbD 5 = (!s.input.joy0.down) ∧ (pinsA s).getLsbD 4 = (!s.input.joy0.up)) ∧
  (∀ s, s.mode1 = .joystick →
    (pinsA s).getLsbD 3 = (!s.input.joy1.right) ∧ (pinsA s).getLsbD 2 = (!s.input.joy1.left) ∧
    (pinsA s).getLsbD 1 = (!s.input.joy1.down) ∧ (pinsA s).getLsbD 0 = (!s.input.joy1.up)) ∧
  (∀ s, s.mode0 = .paddle →
    (pinsA s).getLsbD 7 = (!s.input.paddle0.button) ∧ (pinsA s).getLsbD 6 = (!s.input.paddle1.button) ∧
    (pinsA s).getLsbD 5 = true ∧ (pinsA s).getLsbD 4 = true) ∧
  (∀ s, s.mode1 = .paddle →
    (pinsA s).getLsbD 3 = (!s.input.paddle2.button) ∧ (pinsA s).getLsbD 2 = (!s.input.paddle3.button) ∧
    (pinsA s).getLsbD 1 = true ∧ (pinsA s).getLsbD 0 = true) ∧
  (∀ s k, s.mode0 = .keypad → 4 ≤ k → k < 8 → (pinsA s).getLsbD k = true) ∧
  (∀ s k, s.mode1 = .keypad → k < 4 → (pinsA s).getLsbD k = true) ∧
  (∀ i, (pinsB i).getLsbD 0 = (!i.reset) ∧ (pinsB i).getLsbD 1 = (!i.select) ∧ (pinsB i).getLsbD 6 = i.diff0 ∧
    (pinsB i).getLsbD 7 = i.diff1 ∧ (pinsB i).getLsbD 2 = true ∧ (pinsB i).getLsbD 3 = true ∧
    (pinsB i).getLsbD 4 = true ∧ (pinsB i).getLsbD 5 = true) ∧
  (∀ io input col, keypadColumn io input .port0 col = false ↔
    ∃ r, r < 4 ∧ io.swacnt.getLsbD (4 + r) = true ∧ io.swchaOut.getLsbD (4 + r) = false ∧
      (input.keypad0.row r).key col = true) ∧
  (∀ io input col, keypadColumn io input .port1 col = false ↔
    ∃ r, r < 4 ∧ io.swacnt.getLsbD r = true ∧ io.swchaOut.getLsbD r = false ∧ (input.keypad1.row r).key col = true)

/-- The eight port rows: an output bit reads back the latch, an input bit the pin; a write changes its register only
(R361 to R365, R368 to R370). -/
def Obligations.PortRows : Prop :=
  (∀ addr s o, s.fatal = none → o = opened addr .rd s →
    (∃ v, exec (.swchaRd addr) s = .next (afterRead addr v o) ∧
      ∀ k, k < 8 → v.getLsbD k = if s.io.swacnt.getLsbD k then s.io.swchaOut.getLsbD k else (pinsA s).getLsbD k) ∧
    (∃ v, exec (.swchbRd addr) s = .next (afterRead addr v o) ∧
      ∀ k, k < 8 → v.getLsbD k =
        if s.io.swbcnt.getLsbD k then s.io.swchbOut.getLsbD k else (pinsB s.input).getLsbD k) ∧
    exec (.swacntRd addr) s = .next (afterRead addr s.io.swacnt o) ∧
    exec (.swbcntRd addr) s = .next (afterRead addr s.io.swbcnt o)) ∧
  (∀ addr d s o, s.fatal = none → o = opened addr (.wr d) s →
    exec (.swchaWr addr d) s = .next (afterWrite addr { o with io := { o.io with swchaOut := d } }) ∧
    exec (.swacntWr addr d) s = .next (afterWrite addr { o with io := { o.io with swacnt := d } }) ∧
    exec (.swchbWr addr d) s = .next (afterWrite addr { o with io := { o.io with swchbOut := d } }) ∧
    exec (.swbcntWr addr d) s = .next (afterWrite addr { o with io := { o.io with swbcnt := d } }))

/-- The timer's rows: `INTIM` and `TIMINT` each consume their own flag; a timer write decrements at once, so a reload
value 0 underflows at once; `EDGECTL` only logs (R366, R367, R371 to R375, R377; what is logged, log entry 27). -/
def Obligations.TimerRows : Prop :=
  (∀ addr s o, s.fatal = none → o = opened addr .rd s →
    exec (.intim addr) s = .next (afterRead addr s.timer.intim { o with timer := { o.timer with ufIntim := false } }) ∧
    exec (.timint addr) s = .next (afterRead addr (if s.timer.ufStatus then 0x80 else 0x00)
      { o with timer := { o.timer with ufStatus := false } })) ∧
  (∀ p ∈ [(Instr.tim1t, Divider.d1, 1), (Instr.tim8t, Divider.d8, 8), (Instr.tim64t, Divider.d64, 64),
      (Instr.t1024t, Divider.d1024, 1024)],
    ∀ addr d s, s.fatal = none →
      exec (p.1 addr d) s = .next (afterWrite addr { opened addr (.wr d) s with
        timer := if d = 0 then ⟨0xFF, p.2.1, 1, true, true⟩ else ⟨d - 1, p.2.1, p.2.2, false, false⟩ })) ∧
  (∀ addr d s, s.fatal = none →
    exec (.edgectl addr d) s = .next (afterWrite addr
      (logged .unimplementedRegister (a13 addr) addr (opened addr (.wr d) s))))

/-- `TIMER.TICK`: between decrements only `sub` moves; a decrement past zero sets both flags and gives 0xFF; the counter
runs at one per cycle while the first flag is set (R376, R377).
"writing reload value V with divider D, then reading the raw counter immediately, returns `V - 1`; after exactly `D`
further cycles the counter decrements again": for a reload value other than 0 the counter holds `V - 1` for `D - 1` ticks,
and the `D`-th gives `V - 2`, or 0xFF with both flags from `V = 1` (R366, R371 to R374, R376, R377). -/
def Obligations.TimerTick : Prop :=
  (∀ s, s.fatal = none → ∃ t, exec .timerTick s = .next { s with timer := t, reply := .none } ∧
    t.interval = s.timer.interval ∧
    (1 < s.timer.sub → t = { s.timer with sub := s.timer.sub - 1 }) ∧
    (s.timer.sub = 1 → s.timer.intim = 0 → t.intim = 0xFF ∧ t.ufIntim = true ∧ t.ufStatus = true ∧ t.sub = 1) ∧
    (s.timer.sub = 1 → s.timer.intim ≠ 0 →
      t.intim = s.timer.intim - 1 ∧ t.ufIntim = s.timer.ufIntim ∧ t.ufStatus = s.timer.ufStatus ∧
      t.sub = if s.timer.ufIntim then 1 else s.timer.interval.cycles)) ∧
  (∀ (t : Timer) (i : Divider) (v : Byte), v ≠ 0 →
    (∀ k, k < i.cycles → (times Timer.tick k (t.write i v)).intim = v - 1 ∧
      (times Timer.tick k (t.write i v)).sub = i.cycles - k) ∧
    (times Timer.tick i.cycles (t.write i v)).intim = (if v = 1 then 0xFF else v - 2) ∧
    (times Timer.tick i.cycles (t.write i v)).ufIntim = decide (v = 1) ∧
    (times Timer.tick i.cycles (t.write i v)).ufStatus = decide (v = 1))

/-! ## Cartridge space: the plain variants -/

/-- `Unknown`: a read mirrors the image, a write stores nothing (R149, R150).
Cartridge space of 3F, FE and C0 (R178, R183, R187 to R189). First the window each row serves. An index of 3F's last bank
that is below 0, which needs an image of less than one bank, is no byte of the image (log entries 6 and 17). -/
def Obligations.PlainVariantRows : Prop :=
  ((∀ tag addr d acc,
    ((Instr.unkRom addr).wellFormed tag = true ↔ tag = .unknown ∧ 0x1000 ≤ a13 addr) ∧
    ((Instr.unkWr addr d).wellFormed tag = true ↔ tag = .unknown ∧ 0x1000 ≤ a13 addr) ∧
    ((Instr.m3fRom addr acc).wellFormed tag = true ↔ tag = .m3f ∧ 0x1000 ≤ a13 addr) ∧
    ((Instr.feRom addr acc).wellFormed tag = true ↔ tag = .fe ∧ 0x1000 ≤ a13 addr) ∧
    ((Instr.c0Ramr addr acc).wellFormed tag = true ↔ tag = .c0 ∧ 0x1000 ≤ a13 addr ∧ a13 addr ≤ 0x13FF) ∧
    ((Instr.c0Ramw addr acc).wellFormed tag = true ↔ tag = .c0 ∧ 0x1400 ≤ a13 addr ∧ a13 addr ≤ 0x17FF) ∧
    ((Instr.c0Rom addr acc).wellFormed tag = true ↔ tag = .c0 ∧ 0x1800 ≤ a13 addr))) ∧
  ((∀ addr s, s.fatal = none → (opened addr .rd s).bus.mapper = .unknown →
    exec (.unkRom addr) s = .next (romReply addr (a12 addr % s.image.size) (opened addr .rd s))) ∧
  (∀ addr d s, s.fatal = none → (opened addr (.wr d) s).bus.mapper = .unknown →
    exec (.unkWr addr d) s = .next (afterWrite addr (opened addr (.wr d) s)))) ∧
  ((∀ addr s bank o, s.fatal = none → o = opened addr .rd s → o.bus.mapper = .m3f bank →
    exec (.m3fRom addr .rd) s = .next (romReply addr (
      if addr.getLsbD 11 then
        if s.image.size + a11 addr < 2048 then s.image.size else s.image.size + a11 addr - 2048
      else bank * 2048 + a11 addr) o)) ∧
  (∀ addr d s bank o, s.fatal = none → o = opened addr (.wr d) s → o.bus.mapper = .m3f bank →
    exec (.m3fRom addr (.wr d)) s = .next (afterWrite addr o)) ∧
  (∀ addr s bank o, s.fatal = none → o = opened addr .rd s → o.bus.mapper = .fe bank →
    exec (.feRom addr .rd) s = .next (romReply addr (bank * 4096 + a12 addr) o)) ∧
  (∀ addr d s bank o, s.fatal = none → o = opened addr (.wr d) s → o.bus.mapper = .fe bank →
    exec (.feRom addr (.wr d)) s = .next (afterWrite addr o)) ∧
  (∀ addr s ram o, s.fatal = none → o = opened addr .rd s → o.bus.mapper = .c0 ram →
    exec (.c0Ramr addr .rd) s = .next (afterRead addr (ram.read (a10 addr)) o) ∧
    exec (.c0Ramw addr .rd) s = .next (drawReply addr o) ∧
    exec (.c0Rom addr .rd) s = .next (romReply addr (a12 addr % s.image.size) o)) ∧
  (∀ addr d s ram o, s.fatal = none → o = opened addr (.wr d) s → o.bus.mapper = .c0 ram →
    exec (.c0Ramr addr (.wr d)) s = .next (afterWrite addr o) ∧
    exec (.c0Ramw addr (.wr d)) s = .next (afterWrite addr (withMapper (.c0 (ram.write (a10 addr) d)) o)) ∧
    exec (.c0Rom addr (.wr d)) s = .next (afterWrite addr o)))

/-- The bank-select rows of F8, F6, F4: each is the access to one address `HOT + k` of the window, it sets the bank to
`k`, always below `NBANKS`; a read returns the byte of the new bank at that address, a write stores nothing and its data
byte is ignored (R152). -/
def Obligations.StdBankRows : Prop :=
  ∀ p ∈ [(Instr.f8Bank0, StdKind.f8, 0, 0x1FF8), (Instr.f8Bank1, StdKind.f8, 1, 0x1FF9),
      (Instr.f6Bank0, StdKind.f6, 0, 0x1FF6), (Instr.f6Bank1, StdKind.f6, 1, 0x1FF7),
      (Instr.f6Bank2, StdKind.f6, 2, 0x1FF8), (Instr.f6Bank3, StdKind.f6, 3, 0x1FF9),
      (Instr.f4Bank0, StdKind.f4, 0, 0x1FF4), (Instr.f4Bank1, StdKind.f4, 1, 0x1FF5),
      (Instr.f4Bank2, StdKind.f4, 2, 0x1FF6), (Instr.f4Bank3, StdKind.f4, 3, 0x1FF7),
      (Instr.f4Bank4, StdKind.f4, 4, 0x1FF8), (Instr.f4Bank5, StdKind.f4, 5, 0x1FF9),
      (Instr.f4Bank6, StdKind.f4, 6, 0x1FFA), (Instr.f4Bank7, StdKind.f4, 7, 0x1FFB)],
    (∀ tag addr acc, (p.1 addr acc).wellFormed tag = true ↔ tag = p.2.1.tag ∧ a13 addr = p.2.2.2) ∧
    p.2.2.2 = p.2.1.hot + p.2.2.1 ∧ p.2.2.1 < p.2.1.nbanks ∧
    (∀ addr s m o, s.fatal = none → o = opened addr .rd s → o.bus.mapper = .std m → m.kind = p.2.1 →
      exec (p.1 addr .rd) s = .next (romReply addr (p.2.2.1 * 4096 + a12 addr)
        (withMapper (.std { m with bank := p.2.2.1 }) o))) ∧
    (∀ addr d s m o, s.fatal = none → o = opened addr (.wr d) s → o.bus.mapper = .std m → m.kind = p.2.1 →
      exec (p.1 addr (.wr d)) s = .next (afterWrite addr (withMapper (.std { m with bank := p.2.2.1 }) o)))

/-- The other rows of F8, F6, F4: the superchip overlay is activated by a write to its write port, is write-only there
once active and is read at 0x1080; otherwise ROM; other writes store nothing (R153 to R156). First the addresses each row
serves. -/
def Obligations.StdWindowRows : Prop :=
  ∀ p ∈ [(StdKind.f8, Instr.f8Scw, Instr.f8Scr, Instr.f8Rom, Instr.f8Wr),
      (StdKind.f6, Instr.f6Scw, Instr.f6Scr, Instr.f6Rom, Instr.f6Wr),
      (StdKind.f4, Instr.f4Scw, Instr.f4Scr, Instr.f4Rom, Instr.f4Wr)],
    (∀ tag addr d,
      ((p.2.1 addr d).wellFormed tag = true ↔ tag = p.1.tag ∧ 0x1000 ≤ a13 addr ∧ a13 addr ≤ 0x107F) ∧
      ((p.2.2.1 addr).wellFormed tag = true ↔ tag = p.1.tag ∧ 0x1080 ≤ a13 addr ∧ a13 addr ≤ 0x10FF) ∧
      ((p.2.2.2.1 addr).wellFormed tag = true ↔ tag = p.1.tag ∧
        ¬ (p.1.hot ≤ a13 addr ∧ a13 addr < p.1.hot + p.1.nbanks) ∧
        ((0x1000 ≤ a13 addr ∧ a13 addr ≤ 0x107F) ∨ 0x1100 ≤ a13 addr)) ∧
      ((p.2.2.2.2 addr d).wellFormed tag = true ↔ tag = p.1.tag ∧
        ¬ (p.1.hot ≤ a13 addr ∧ a13 addr < p.1.hot + p.1.nbanks) ∧ 0x1080 ≤ a13 addr)) ∧
    (∀ addr s m o, s.fatal = none → o = opened addr .rd s → o.bus.mapper = .std m → m.kind = p.1 →
      exec (p.2.2.1 addr) s = .next (
        if m.superchip then afterRead addr (m.scRam.read (a7 addr)) o
        else romReply addr (m.bank * 4096 + a12 addr) o) ∧
      exec (p.2.2.2.1 addr) s = .next (
        if m.superchip = true ∧ a13 addr ≤ 0x107F then drawReply addr o
        else romReply addr (m.bank * 4096 + a12 addr) o)) ∧
    (∀ addr d s m o, s.fatal = none → o = opened addr (.wr d) s → o.bus.mapper = .std m → m.kind = p.1 →
      exec (p.2.1 addr d) s = .next (afterWrite addr (withMapper
        (.std { m with superchip := true, scRam := m.scRam.write (a7 addr) d }) o)) ∧
      exec (p.2.2.2.2 addr d) s = .next (afterWrite addr o))

/-- The rows of FA: bank `k` is selected by an access to 0x1FF8 + k, before the byte is read (R160 to R163).
The rows of F0: any access to 0x1FF0 steps the bank, from 15 to 0, before the byte is read (R165, R166). First the
addresses each row serves. -/
def Obligations.FaAndF0Rows : Prop :=
  (∀ tag addr acc,
    (∀ p ∈ [(Instr.faBank0, 0x1FF8), (Instr.faBank1, 0x1FF9), (Instr.faBank2, 0x1FFA)],
      ((p.1 addr acc).wellFormed tag = true ↔ tag = .fa ∧ a13 addr = p.2)) ∧
    ((Instr.faRamw addr acc).wellFormed tag = true ↔ tag = .fa ∧ 0x1000 ≤ a13 addr ∧ a13 addr ≤ 0x10FF) ∧
    ((Instr.faRamr addr acc).wellFormed tag = true ↔ tag = .fa ∧ 0x1100 ≤ a13 addr ∧ a13 addr ≤ 0x11FF) ∧
    ((Instr.faRom addr acc).wellFormed tag = true ↔
      tag = .fa ∧ 0x1200 ≤ a13 addr ∧ ¬ (0x1FF8 ≤ a13 addr ∧ a13 addr ≤ 0x1FFA)) ∧
    ((Instr.f0Rom addr acc).wellFormed tag = true ↔ tag = .f0 ∧ 0x1000 ≤ a13 addr ∧ a13 addr ≠ 0x1FF0)) ∧
  ((∀ addr s m o, s.fatal = none → o = opened addr .rd s → o.bus.mapper = .fa m →
    (∀ p ∈ [(Instr.faBank0, 0), (Instr.faBank1, 1), (Instr.faBank2, 2)],
      exec (p.1 addr .rd) s = .next (romReply addr (p.2 * 4096 + a12 addr)
        (withMapper (.fa { m with bank := p.2 }) o))) ∧
    exec (.faRamw addr .rd) s = .next (drawReply addr o) ∧
    exec (.faRamr addr .rd) s = .next (afterRead addr (m.ram.read (a8 addr)) o) ∧
    exec (.faRom addr .rd) s = .next (romReply addr (m.bank * 4096 + a12 addr) o)) ∧
  (∀ addr d s m o, s.fatal = none → o = opened addr (.wr d) s → o.bus.mapper = .fa m →
    (∀ p ∈ [(Instr.faBank0, 0), (Instr.faBank1, 1), (Instr.faBank2, 2)],
      exec (p.1 addr (.wr d)) s = .next (afterWrite addr (withMapper (.fa { m with bank := p.2 }) o))) ∧
    exec (.faRamw addr (.wr d)) s = .next (afterWrite addr
      (withMapper (.fa { m with ram := m.ram.write (a8 addr) d }) o)) ∧
    exec (.faRamr addr (.wr d)) s = .next (afterWrite addr o) ∧
    exec (.faRom addr (.wr d)) s = .next (afterWrite addr o))) ∧
  ((∀ tag addr acc, (Instr.f0Next addr acc).wellFormed tag = true ↔ tag = .f0 ∧ a13 addr = 0x1FF0) ∧
  (∀ addr s bank b o, s.fatal = none → o = opened addr .rd s → o.bus.mapper = .f0 bank →
    b = (if bank % 16 = 15 then 0 else bank % 16 + 1) →
    exec (.f0Next addr .rd) s = .next (romReply addr (b * 4096 + a12 addr) (withMapper (.f0 b) o)) ∧
    exec (.f0Rom addr .rd) s = .next (romReply addr (bank * 4096 + a12 addr) o)) ∧
  (∀ addr d s bank b o, s.fatal = none → o = opened addr (.wr d) s → o.bus.mapper = .f0 bank →
    b = (if bank % 16 = 15 then 0 else bank % 16 + 1) →
    exec (.f0Next addr (.wr d)) s = .next (afterWrite addr (withMapper (.f0 b) o)) ∧
    exec (.f0Rom addr (.wr d)) s = .next (afterWrite addr o)))

/-- The rows of E0: the three slices of 1 KB below 0x1C00 and the fixed bank 7 above; a control access selects the bank
`a[2:0]` of its slice first (R170, R171). -/
def Obligations.E0Rows : Prop :=
  (∀ addr m, E0.bankAt addr m =
    if a12 addr < 0x400 then m.slice0 else if a12 addr < 0x800 then m.slice1
    else if a12 addr < 0xC00 then m.slice2 else 7) ∧
  (∀ p ∈ [(Instr.e0S0, 0x1FE0, fun (b : Nat) (m : E0) => { m with slice0 := b }),
      (Instr.e0S1, 0x1FE8, fun b m => { m with slice1 := b }),
      (Instr.e0S2, 0x1FF0, fun b m => { m with slice2 := b })],
    (∀ tag addr acc, (p.1 addr acc).wellFormed tag = true ↔
      tag = .e0 ∧ p.2.1 ≤ a13 addr ∧ a13 addr < p.2.1 + 8) ∧
    (∀ addr s m m' o, s.fatal = none → o = opened addr .rd s → o.bus.mapper = .e0 m →
      m' = p.2.2 (addr.toNat % 8) m →
      exec (p.1 addr .rd) s = .next (romReply addr (m'.bankAt addr * 1024 + a10 addr) (withMapper (.e0 m') o))) ∧
    (∀ addr d s m o, s.fatal = none → o = opened addr (.wr d) s → o.bus.mapper = .e0 m →
      exec (p.1 addr (.wr d)) s = .next (afterWrite addr (withMapper (.e0 (p.2.2 (addr.toNat % 8) m)) o)))) ∧
  (∀ tag addr acc, (Instr.e0Rom addr acc).wellFormed tag = true ↔
    tag = .e0 ∧ 0x1000 ≤ a13 addr ∧ ¬ (0x1FE0 ≤ a13 addr ∧ a13 addr ≤ 0x1FF7)) ∧
  (∀ addr s m o, s.fatal = none → o = opened addr .rd s → o.bus.mapper = .e0 m →
    exec (.e0Rom addr .rd) s = .next (romReply addr (m.bankAt addr * 1024 + a10 addr) o)) ∧
  (∀ addr d s m o, s.fatal = none → o = opened addr (.wr d) s → o.bus.mapper = .e0 m →
    exec (.e0Rom addr (.wr d)) s = .next (afterWrite addr o))

/-- `3F.BANK` is the snooped write and also the write of the TIA register, of whatever row `i` serves that address under
another variant; the bank is the data byte modulo the number of 2 KB banks unless the previous write was to 0x3E or 0x40;
the write that selects the variant sets the bank too (R122, R177). With an image of no banks the bank is free (log entry
17). First the addresses the row serves, where it stands in place of the `TIAW` row (log entry 16). -/
def Obligations.M3fBankRow : Prop :=
  (∀ tag addr d, (Instr.m3fBank addr d).wellFormed tag = true ↔ tag = .m3f ∧ a13 addr ≤ 0x003F) ∧
  (∀ addr d s bank, s.fatal = none → (opened addr (.wr d) s).bus.mapper = .m3f bank →
    (∃ t, exec (.m3fBank addr d) s = .next t ∧ t.bus.mapper = .m3f bank) ∧
    (a13 addr ≤ 0x003F → ∃ i, decode .unknown (busRequest addr (.wr d)) = some i ∧
      exec (.m3fBank addr d) s = exec i s)) ∧
  (∀ addr d s bank, s.fatal = none → s.bus.mapper = .m3f bank → a13 addr ≤ 0x003F →
    ∃ t, exec (.m3fBank addr d) s = .next t ∧ t.bus.mapper = .m3f (
      if a13 s.bus.lastWriteAddr = 0x003E ∨ a13 s.bus.lastWriteAddr = 0x0040 then bank
      else bankOf s.image.size d)) ∧
  (∀ addr d s, s.fatal = none → s.bus.mapper = .unknown → s.image.size = 8192 → a13 addr = 0x003F →
    a13 s.bus.lastWriteAddr ≠ 0x003E → a13 s.bus.lastWriteAddr ≠ 0x0040 →
    ∃ t, exec (.m3fBank addr d) s = .next t ∧ t.bus.mapper = .m3f (d.toNat % 4))

/-- The ticks of the mapper: `MAPPER.TICK` is the active variant's arm, and nothing for the ten variants without one;
`FE.TICK` takes the bank from the last read address, as the spec decides (R143; R184, D34). -/
def Obligations.MapperTicks : Prop :=
  (∀ s, s.fatal = none → s.bus.mapper.tag ≠ .fe → s.bus.mapper.tag ≠ .dpc → s.bus.mapper.tag ≠ .ar66 →
    exec .mapperTick s = .next { s with reply := .none }) ∧
  (∀ s bank, s.fatal = none → s.bus.mapper = .fe bank →
    exec .feTick s = .next { withMapper (.fe (
      if s.bus.lastReadAddr.getLsbD 12 then (if s.bus.lastReadAddr.getLsbD 13 then 0 else 1) else bank)) s with
      reply := .none } ∧
    exec .mapperTick s = exec .feTick s) ∧
  (∀ s m, s.fatal = none → s.bus.mapper = .dpc m → exec .mapperTick s = exec .dpcTick s) ∧
  (∀ s m, s.fatal = none → s.bus.mapper = .ar66 m → exec .mapperTick s = exec .arTick s)

/-! ## E7 -/

/-- The hotspots of E7: bank 0 to 6, the RAM bank 8, the 256-byte RAM bank; a read returns the fixed ROM (R193, R197).
The windows of E7: the lower window by bank, the two ports of the 256-byte RAM bank, the fixed ROM (R194 to R197).
`ram256[b][k]` is byte `256 * b + k`. -/
def Obligations.E7Rows : Prop :=
  (∀ p ∈ [(Instr.e7Bank0, 0x1FE0, fun (m : E7) => { m with bank := 0 }),
      (Instr.e7Bank1, 0x1FE1, fun m => { m with bank := 1 }), (Instr.e7Bank2, 0x1FE2, fun m => { m with bank := 2 }),
      (Instr.e7Bank3, 0x1FE3, fun m => { m with bank := 3 }), (Instr.e7Bank4, 0x1FE4, fun m => { m with bank := 4 }),
      (Instr.e7Bank5, 0x1FE5, fun m => { m with bank := 5 }), (Instr.e7Bank6, 0x1FE6, fun m => { m with bank := 6 }),
      (Instr.e7Ramon, 0x1FE7, fun m => { m with bank := 8 }),
      (Instr.e7Rbank0, 0x1FE8, fun m => { m with ramBank := 0 }),
      (Instr.e7Rbank1, 0x1FE9, fun m => { m with ramBank := 1 }),
      (Instr.e7Rbank2, 0x1FEA, fun m => { m with ramBank := 2 }),
      (Instr.e7Rbank3, 0x1FEB, fun m => { m with ramBank := 3 })],
    (∀ tag addr acc, (p.1 addr acc).wellFormed tag = true ↔ tag = .e7 ∧ a13 addr = p.2.1) ∧
    (∀ addr s m o, s.fatal = none → o = opened addr .rd s → o.bus.mapper = .e7 m →
      exec (p.1 addr .rd) s = .next (romReply addr (7 * 2048 + a11 addr) (withMapper (.e7 (p.2.2 m)) o))) ∧
    (∀ addr d s m o, s.fatal = none → o = opened addr (.wr d) s → o.bus.mapper = .e7 m →
      exec (p.1 addr (.wr d)) s = .next (afterWrite addr (withMapper (.e7 (p.2.2 m)) o)))) ∧
  (∀ tag addr d acc,
    ((Instr.e7LowRd addr).wellFormed tag = true ↔ tag = .e7 ∧ 0x1000 ≤ a13 addr ∧ a13 addr ≤ 0x17FF) ∧
    ((Instr.e7LowWr addr d).wellFormed tag = true ↔ tag = .e7 ∧ 0x1000 ≤ a13 addr ∧ a13 addr ≤ 0x17FF) ∧
    ((Instr.e7R256w addr acc).wellFormed tag = true ↔ tag = .e7 ∧ 0x1800 ≤ a13 addr ∧ a13 addr ≤ 0x18FF) ∧
    ((Instr.e7R256r addr acc).wellFormed tag = true ↔ tag = .e7 ∧ 0x1900 ≤ a13 addr ∧ a13 addr ≤ 0x19FF) ∧
    ((Instr.e7Fixed addr acc).wellFormed tag = true ↔
      tag = .e7 ∧ 0x1A00 ≤ a13 addr ∧ ¬ (0x1FE0 ≤ a13 addr ∧ a13 addr ≤ 0x1FEB))) ∧
  ((∀ addr s m o, s.fatal = none → o = opened addr .rd s → o.bus.mapper = .e7 m →
    exec (.e7LowRd addr) s = .next (
      if m.bank ≤ 6 then romReply addr (m.bank * 2048 + a11 addr) o
      else if a13 addr ≤ 0x13FF then drawReply addr o
      else afterRead addr (m.ram1k.read (a10 addr)) o) ∧
    exec (.e7R256w addr .rd) s = .next (drawReply addr o) ∧
    exec (.e7R256r addr .rd) s = .next (afterRead addr (m.ram256.read (256 * m.ramBank + a8 addr)) o) ∧
    exec (.e7Fixed addr .rd) s = .next (romReply addr (7 * 2048 + a11 addr) o)) ∧
  (∀ addr d s m o, s.fatal = none → o = opened addr (.wr d) s → o.bus.mapper = .e7 m →
    exec (.e7LowWr addr d) s = .next (afterWrite addr (
      if m.bank = 8 then withMapper (.e7 { m with ram1k := m.ram1k.write (a10 addr) d }) o else o)) ∧
    exec (.e7R256w addr (.wr d)) s = .next (afterWrite addr
      (withMapper (.e7 { m with ram256 := m.ram256.write (256 * m.ramBank + a8 addr) d }) o)) ∧
    exec (.e7R256r addr (.wr d)) s = .next (afterWrite addr o) ∧
    exec (.e7Fixed addr (.wr d)) s = .next (afterWrite addr o)))

/-! ## DPC -/

/-- Program ROM of DPC and its bank select. The row `DPC.ROM` serves the reads from 0x1040 on, of which those up to 0x107F,
the window of the write registers, drive nothing, and the writes outside that window, which store nothing; the writes to
that window are the rows of `DpcWriteRows` (R205, R206). -/
def Obligations.DpcRomRows : Prop :=
  (∀ p ∈ [(Instr.dpcBank0, 0, 0x1FF8), (Instr.dpcBank1, 1, 0x1FF9)],
    (∀ tag addr acc, (p.1 addr acc).wellFormed tag = true ↔ tag = .dpc ∧ a13 addr = p.2.2) ∧
    (∀ addr s m o, s.fatal = none → o = opened addr .rd s → o.bus.mapper = .dpc m →
      exec (p.1 addr .rd) s = .next (romReply addr (p.2.1 * 4096 + a12 addr)
        (withMapper (.dpc { m with bank := p.2.1 }) o))) ∧
    (∀ addr d s m o, s.fatal = none → o = opened addr (.wr d) s → o.bus.mapper = .dpc m →
      exec (p.1 addr (.wr d)) s = .next (afterWrite addr (withMapper (.dpc { m with bank := p.2.1 }) o)))) ∧
  (∀ tag addr d, ((Instr.dpcRom addr .rd).wellFormed tag = true ↔
      tag = .dpc ∧ 0x1040 ≤ a13 addr ∧ a13 addr ≠ 0x1FF8 ∧ a13 addr ≠ 0x1FF9) ∧
    ((Instr.dpcRom addr (.wr d)).wellFormed tag = true ↔
      tag = .dpc ∧ ((0x1000 ≤ a13 addr ∧ a13 addr ≤ 0x103F) ∨ 0x1080 ≤ a13 addr) ∧ a13 addr ≠ 0x1FF8 ∧
        a13 addr ≠ 0x1FF9)) ∧
  (∀ addr s m o, s.fatal = none → o = opened addr .rd s → o.bus.mapper = .dpc m →
    exec (.dpcRom addr .rd) s = .next (
      if a13 addr ≤ 0x107F then drawReply addr o else romReply addr (m.bank * 4096 + a12 addr) o)) ∧
  (∀ addr d s m o, s.fatal = none → o = opened addr (.wr d) s → o.bus.mapper = .dpc m →
    exec (.dpcRom addr (.wr d)) s = .next (afterWrite addr o))

/-- The random generator: shift left with the complemented parity of four taps; from 1 it gives 0x03, 0x07, 0x0F, 0x1E,
0x3D, 0x7A, its period is 255, and 0xFF, its own successor, is never reached (R208). -/
def Obligations.DpcRandomGenerator : Prop :=
  (∀ r, (rngNext r).getLsbD 0 = !(r.getLsbD 7 ^^ r.getLsbD 5 ^^ r.getLsbD 4 ^^ r.getLsbD 3) ∧
    ∀ k, k < 7 → (rngNext r).getLsbD (k + 1) = r.getLsbD k) ∧
  (List.range 7).map (fun n => times rngNext n 1) = [0x01, 0x03, 0x07, 0x0F, 0x1E, 0x3D, 0x7A] ∧
  rngNext 0xFF = 0xFF ∧
  ∀ n, (times rngNext n 1 = 1 ↔ n % 255 = 0) ∧ times rngNext n 1 ≠ 0xFF

/-- The read registers of DPC. First the generator steps; then pointer `i = a[2:0]` updates its flag by the low byte of
its counter; then the result is formed; then the counter of a pointer not in music mode is decremented (R208, R210 to
R212). `w` is the pointer with its flag updated, `q` the pointer the read leaves. First the addresses each row serves. -/
def Obligations.DpcReadRows : Prop :=
  (∀ p ∈ [(Instr.dpcRdRng, 0x1000, 0x1003), (Instr.dpcRdMusic, 0x1004, 0x1007), (Instr.dpcRdData, 0x1008, 0x100F),
      (Instr.dpcRdGated, 0x1010, 0x1017), (Instr.dpcRdSwap, 0x1018, 0x101F), (Instr.dpcRdRev, 0x1020, 0x1027),
      (Instr.dpcRdRor, 0x1028, 0x102F), (Instr.dpcRdRol, 0x1030, 0x1037), (Instr.dpcRdFlag, 0x1038, 0x103F)],
    ∀ tag addr, (p.1 addr).wellFormed tag = true ↔ tag = .dpc ∧ p.2.1 ≤ a13 addr ∧ a13 addr ≤ p.2.2) ∧
  ∀ addr s m o i w q m', s.fatal = none → o = opened addr .rd s → o.bus.mapper = .dpc m → i = addr.toNat % 8 →
    w = { m.ptr.get i with flag :=
      if (m.ptr.get i).counter.extractLsb' 0 8 = (m.ptr.get i).top then 0xFF
      else if (m.ptr.get i).counter.extractLsb' 0 8 = (m.ptr.get i).bottom then 0x00
      else (m.ptr.get i).flag } →
    q = (if 5 ≤ i ∧ w.musicMode = true then w else { w with counter := w.counter - 1 }) →
    m' = { m with rng := rngNext m.rng, ptr := m.ptr.set i q } →
    exec (.dpcRdRng addr) s = .next (afterRead addr (rngNext m.rng) (withMapper (.dpc m') o)) ∧
    (∃ v, exec (.dpcRdMusic addr) s = .next (afterRead addr v (withMapper (.dpc m') o)) ∧
      ∀ on : Nat → Bool, (∀ j, on j =
          ((if j = i then w else m.ptr.get j).musicMode && (if j = i then w else m.ptr.get j).flag != 0)) →
        v = match on 7, on 6, on 5 with
          | false, false, false => 0x00
          | false, false, true => 0x04
          | false, true, false => 0x05
          | false, true, true => 0x09
          | true, false, false => 0x06
          | true, false, true => 0x0A
          | true, true, false => 0x0B
          | true, true, true => 0x0F) ∧
    (∀ p ∈ [(Instr.dpcRdData, fun (b : Byte) => b), (Instr.dpcRdGated, fun b => b &&& w.flag),
        (Instr.dpcRdSwap, fun b => (b &&& w.flag).rotateLeft 4), (Instr.dpcRdRev, fun b => (b &&& w.flag).reverse),
        (Instr.dpcRdRor, fun b => (b &&& w.flag).rotateRight 1), (Instr.dpcRdRol, fun b => (b &&& w.flag).rotateLeft 1)],
      exec (p.1 addr) s = .next
        (romReplyVia p.2 addr (8192 + (2047 - w.counter.toNat % 2048)) (withMapper (.dpc m') o))) ∧
    exec (.dpcRdFlag addr) s = .next (afterRead addr w.flag (withMapper (.dpc m') o))

/-- The write registers of DPC: the generator steps before the write's own effect (R208, R213 to R218). `set q` is the
state with pointer `i = a[2:0]` replaced. First the addresses each row serves. What is logged is log entry 27. -/
def Obligations.DpcWriteRows : Prop :=
  (∀ p ∈ [(Instr.dpcWrTop, 0x1040, 0x1047), (Instr.dpcWrBottom, 0x1048, 0x104F), (Instr.dpcWrLow, 0x1050, 0x1057),
      (Instr.dpcWrHigh, 0x1058, 0x105F), (Instr.dpcWrRngReset, 0x1070, 0x1077)],
    ∀ tag addr d, (p.1 addr d).wellFormed tag = true ↔ tag = .dpc ∧ p.2.1 ≤ a13 addr ∧ a13 addr ≤ p.2.2) ∧
  (∀ tag addr d, (Instr.dpcWrNotImpl addr d).wellFormed tag = true ↔ tag = .dpc ∧
    ((0x1060 ≤ a13 addr ∧ a13 addr ≤ 0x106F) ∨ (0x1078 ≤ a13 addr ∧ a13 addr ≤ 0x107F))) ∧
  ∀ addr d s m o i p set, s.fatal = none → o = opened addr (.wr d) s → o.bus.mapper = .dpc m →
    i = addr.toNat % 8 → p = m.ptr.get i →
    (set = fun q => afterWrite addr
      (withMapper (.dpc { m with rng := rngNext m.rng, ptr := m.ptr.set i q }) o)) →
    exec (.dpcWrTop addr d) s = .next (set { p with top := d, flag := 0x00 }) ∧
    exec (.dpcWrBottom addr d) s = .next (set { p with bottom := d }) ∧
    exec (.dpcWrLow addr d) s = .next (set { p with
      counter := p.counter.extractLsb' 8 8 ++ (if 5 ≤ i ∧ p.musicMode = true then p.top else d) }) ∧
    exec (.dpcWrHigh addr d) s = .next (set { p with
      counter := d ++ p.counter.extractLsb' 0 8
      musicMode := if 5 ≤ i then d.getLsbD 4 else p.musicMode }) ∧
    exec (.dpcWrRngReset addr d) s = .next (afterWrite addr (withMapper (.dpc { m with rng := 1 }) o)) ∧
    exec (.dpcWrNotImpl addr d) s = .next (afterWrite addr (logged .unimplementedRegister (a13 addr) addr
      (withMapper (.dpc { m with rng := rngNext m.rng }) o)))

/-- `DPC.TICK`: 59 of 60 ticks only count; the sixtieth moves the low byte of each music-mode pointer 5 to 7 down to 0
and back to `top`, and sets its flag by `bottom` and `top`; nothing else changes (R209). -/
def Obligations.DpcTick : Prop :=
  ∀ s m, s.fatal = none → s.bus.mapper = .dpc m → ∃ m', exec .dpcTick s =
      .next { withMapper (.dpc m') s with reply := .none } ∧
    m'.bank = m.bank ∧ m'.rng = m.rng ∧
    (m.oscTicks ≠ 59 → m' = { m with oscTicks := m.oscTicks + 1 }) ∧
    (m.oscTicks = 59 → m'.oscTicks = 0 ∧ (∀ i, i < 5 → m'.ptr.get i = m.ptr.get i) ∧
      ∀ i, 5 ≤ i → i < 8 → ∀ p q low, p = m.ptr.get i → q = m'.ptr.get i →
        low = (if p.top = 0 then 0 else if p.counter.extractLsb' 0 8 = 0 then p.top
          else p.counter.extractLsb' 0 8 - 1) →
        (p.musicMode = false → q = p) ∧
        (p.musicMode = true → q = { p with
          counter := p.counter.extractLsb' 8 8 ++ low
          flag := if low ≤ p.bottom then 0x00 else if low ≤ p.top then 0xFF else p.flag }))

/-! ## "66" -/

/-- What an address reaches under each window configuration `ctrl[4:2]`: the RAM bank of the lower and of the upper
window, none for the firmware ROM (R226).
The rows of "66": `AR.LATCH` takes the low address byte unless a write is pending with writes enabled, `AR.CTRL`
copies the latched byte to the control register; then a read returns the RAM byte under the control register as it is
now, or for the firmware ROM a draw, logged; a write's data byte has no effect (R227 to R231). Before them, the addresses
each row serves. What is logged is log entry 27. -/
def Obligations.ArRows : Prop :=
  (∀ p ∈ [(0, 2, none), (1, 0, none), (2, 2, some 0), (3, 0, some 2), (4, 2, none), (5, 1, none), (6, 2, some 1),
      (7, 1, some 2)],
    ∀ (ctrl : Byte) (addr : Addr), ctrl.extractLsb' 2 3 = BitVec.ofNat 3 p.1 →
      (addr.getLsbD 11 = false → arMap ctrl addr = some (p.2.1 * 2048 + addr.toNat % 2048)) ∧
      (addr.getLsbD 11 = true → arMap ctrl addr = p.2.2.map (fun b : Nat => b * 2048 + addr.toNat % 2048))) ∧
  (∀ tag addr d acc,
    ((Instr.arLatch addr acc).wellFormed tag = true ↔ tag = .ar66 ∧ 0x1000 ≤ a13 addr ∧ a13 addr ≤ 0x10FF) ∧
    ((Instr.arCtrl addr acc).wellFormed tag = true ↔ tag = .ar66 ∧ a13 addr = 0x1FF8) ∧
    ((Instr.arMemRd addr).wellFormed tag = true ↔ tag = .ar66 ∧ 0x1100 ≤ a13 addr ∧ a13 addr ≠ 0x1FF8) ∧
    ((Instr.arMemWr addr d).wellFormed tag = true ↔ tag = .ar66 ∧ 0x1100 ≤ a13 addr ∧ a13 addr ≠ 0x1FF8)) ∧
  (∀ addr s m l c, s.fatal = none →
    l = (if m.pending = false ∨ m.ctrl.getLsbD 1 = false then
      { m with latched := addr.extractLsb' 0 8, pending := true } else m) →
    c = { m with ctrl := m.latched, pending := false } →
    (∀ o, o = opened addr .rd s → o.bus.mapper = .ar66 m →
      ∀ p ∈ [(Instr.arLatch addr .rd, l), (Instr.arCtrl addr .rd, c), (Instr.arMemRd addr, m)],
        exec p.1 s = .next (match arMap p.2.ctrl addr with
          | some k => afterRead addr (p.2.ram.read k) (withMapper (.ar66 p.2) o)
          | none => drawReply addr (logged .unimplementedRegister (a13 addr) addr (withMapper (.ar66 p.2) o)))) ∧
    (∀ d o, o = opened addr (.wr d) s → o.bus.mapper = .ar66 m →
      ∀ p ∈ [(Instr.arLatch addr (.wr d), l), (Instr.arCtrl addr (.wr d), c), (Instr.arMemWr addr d, m)],
        exec p.1 s = .next (afterWrite addr (withMapper (.ar66 p.2) o))))

/-- `AR.TICK`: the hold counter follows the last accessed address and saturates at 6; the tick that brings it to 5 with a
write pending ends the pulse and, with writes enabled and an address in RAM, stores the latched byte; no other byte of
the RAM changes (R232). -/
def Obligations.ArTick : Prop :=
  ∀ s m t, s.fatal = none → s.bus.mapper = .ar66 m → t = s.bus.lastAccessAddr →
    ∃ m', exec .arTick s = .next { withMapper (.ar66 m') s with reply := .none } ∧
      m'.ctrl = m.ctrl ∧ m'.latched = m.latched ∧ m'.entry = m.entry ∧ m'.heldAddr = t ∧
      m'.heldCount = (if t = m.heldAddr then min (m.heldCount + 1) 6 else 1) ∧
      m'.pending = (m.pending && m'.heldCount != 5) ∧
      ∀ k, m'.ram.read k =
        if m'.heldCount = 5 ∧ m.pending = true ∧ t.getLsbD 12 = true ∧ m.ctrl.getLsbD 1 = true ∧
          arMap m.ctrl t = some k then m.latched
        else m.ram.read k

/-- `AR66.initialize`: the first 6 KB of the image, the entry vector at 0x2000 with its low byte first, the control byte
at 0x2002, the rest of the record zero; `MAPPER.INIT` is that for "66" and nothing for any other variant (R145, R236).
For an image too short to have those bytes, which a "66" chosen at power-on never has, they are draws (log entry 6). That
either operation, requested on its own, leaves `coreStart` as it was, although R236 hands the entry to the core at
power-on, is the model's choice (log entry 28). -/
def Obligations.ArInitialize : Prop :=
  (∀ s m, s.fatal = none → s.bus.mapper = .ar66 m → ∃ ram ctrl entry n,
    exec .ar66Initialize s = .next { withMapper (.ar66 ⟨ram, ctrl, 0, false, 0, 0, entry⟩) s with
      draws := n, reply := .none } ∧
    exec .mapperInit s = exec .ar66Initialize s ∧
    (∀ k, k < 6144 → k < s.image.size → ram.read k = s.image.bytes.read k) ∧ (∀ k, 6144 ≤ k → ram.read k = 0) ∧
    (0x2002 < s.image.size → ctrl = s.image.bytes.read 0x2002 ∧
      entry = s.image.bytes.read 0x2001 ++ s.image.bytes.read 0x2000)) ∧
  (∀ s, s.fatal = none → s.bus.mapper.tag ≠ .ar66 → exec .mapperInit s = .next { s with reply := .none })

/-! ## The colour clock -/

/-- `TIA.TICK` on the beam: `x` takes the values -68 to 159 in order, the wrap steps `y` up to 320 and ends the stall, the
playfield is latched where `x mod 4 = 3`, and a motion request is consumed at the wrap, where the comb follows its
lateness; the fields named last are written by no tick (R320, R338 to R342).
Where a tick moves the objects: a hidden missile is locked to the middle of its player's first copy at every clock,
and a wrap with motion pending decrements all five positions by the signed motion value, and by 8 more when late (R329,
R341). -/
def Obligations.TickBeamAndMotion : Prop :=
  (∀ s u, s.fatal = none → u = s.tia → ∃ t, exec .tiaTick s = .next { s with tia := t, reply := .none } ∧
    (u.x ≠ 159 → t.x = u.x + 1 ∧ t.y = u.y ∧ t.waitHBlank = u.waitHBlank ∧ t.hmovePending = u.hmovePending ∧
      t.hmoveLate = u.hmoveLate ∧ t.comb = u.comb) ∧
    (u.x = 159 → t.x = -68 ∧ t.y = min (u.y + 1) 320 ∧ t.waitHBlank = false ∧ t.hmovePending = false ∧
      t.hmoveLate = false ∧ t.comb = (u.hmovePending && u.hmoveLate)) ∧
    t.pfActive = (if u.x % 4 = 3 then u.pfToLoad else u.pfActive) ∧
    t.frameReady = u.frameReady ∧ t.vsync = u.vsync ∧ t.lastFrameLines = u.lastFrameLines ∧
    t.vblankBlank = u.vblankBlank ∧ t.vblankLatch = u.vblankLatch ∧ t.vblankDump = u.vblankDump ∧
    t.pfToLoad = u.pfToLoad ∧ t.pfReflect = u.pfReflect ∧ t.pfScore = u.pfScore ∧ t.pfPriority = u.pfPriority ∧
    t.colupf = u.colupf ∧ t.colubk = u.colubk ∧
    t.p0 = { u.p0 with pos := t.p0.pos } ∧ t.p1 = { u.p1 with pos := t.p1.pos } ∧
    t.m0 = { u.m0 with pos := t.m0.pos } ∧ t.m1 = { u.m1 with pos := t.m1.pos } ∧ t.bl = { u.bl with pos := t.bl.pos }) ∧
  (∀ s u lock moved, s.fatal = none → u = s.tia →
    (lock = fun (m : Missile) (p : Player) =>
      if m.resmp then ((p.pos : Int) + (if p.nusiz = 5 then 8 else if p.nusiz = 7 then 16 else 4)) % 160 else m.pos) →
    (moved = fun (pos : Int) (hm : BitVec 4) =>
      if u.x = 159 ∧ u.hmovePending = true then (pos - hm.toInt - (if u.hmoveLate then 8 else 0)) % 160 else pos) →
    ∃ t, exec .tiaTick s = .next t ∧
      t.tia.p0.pos = moved u.p0.pos u.p0.hm ∧ t.tia.p1.pos = moved u.p1.pos u.p1.hm ∧
      t.tia.m0.pos = moved (lock u.m0 u.p0) u.m0.hm ∧ t.tia.m1.pos = moved (lock u.m1 u.p1) u.m1.hm ∧
      t.tia.bl.pos = moved u.bl.pos u.bl.hm)

/-- The six object bits at a visible clock: playfield by column and reflection; ball and missile by a window of
`2 ^ size` clocks; player by a window of 8 shape pixels at each copy; all windows modulo 160 (R322 to R328). Missile `i` takes the repeat
mode of player `i` (R327). -/
def Obligations.ObjectBits : Prop :=
  ∀ (t : Tia) (x : Int), 0 ≤ x → x < 160 →
    (objectBits t x).p0 = playerBit t.p0 x ∧ (objectBits t x).p1 = playerBit t.p1 x ∧
    (objectBits t x).m0 = missileBit t.m0 t.p0.nusiz x ∧ (objectBits t x).m1 = missileBit t.m1 t.p1.nusiz x ∧
    (objectBits t x).bl = ballBit t.bl x ∧ (objectBits t x).pf = pfBit t x ∧
    (∀ k : Nat, k < 20 → (x / 4 = k → pfBit t x = t.pfActive.getLsbD k) ∧
      (x / 4 = 20 + k → pfBit t x = if t.pfReflect then t.pfActive.getLsbD (19 - k) else t.pfActive.getLsbD k)) ∧
    (∀ b : Ball, ballBit b x = true ↔
      (if b.vdel then b.enOld else b.enNew) = true ∧ (x - b.pos) % 160 < 2 ^ b.size.toNat) ∧
    (∀ (m : Missile) (n : BitVec 3), missileBit m n x = true ↔
      m.enabled = true ∧ m.resmp = false ∧ ∃ o ∈ copyOffsets n, (x - m.pos - o) % 160 < 2 ^ m.size.toNat) ∧
    (∀ p : Player, playerBit p x = true ↔ ∃ o ∈ copyOffsets p.nusiz, ∃ j : Nat, j < 8 ∧
      (x - p.pos - o) % 160 / (if p.nusiz = 5 then 2 else if p.nusiz = 7 then 4 else 1) = j ∧
      (if p.vdel then p.grpOld else p.grpNew).getLsbD (if p.refl then j else 7 - j) = true) ∧
    copyOffsets 0 = [0] ∧ copyOffsets 1 = [0, 16] ∧ copyOffsets 2 = [0, 32] ∧ copyOffsets 3 = [0, 16, 32] ∧
    copyOffsets 4 = [0, 64] ∧ copyOffsets 5 = [0] ∧ copyOffsets 6 = [0, 32, 64] ∧ copyOffsets 7 = [0]

/-- Collisions: in blanking none; at a visible clock each of the fifteen latches becomes true where both its objects'
bits are, whatever hides the pixel, and no latch is cleared (R29, R321, R333). The bits are taken after the missile
lock. -/
def Obligations.TickCollisions : Prop :=
  ∀ s b, s.fatal = none → b = objectBits (lockMissiles s.tia) s.tia.x → ∃ t, exec .tiaTick s = .next t ∧
    (s.tia.x < 0 → t.tia.cx = s.tia.cx) ∧
    (0 ≤ s.tia.x → ∀ p ∈ [(Collisions.m0p1, b.m0, b.p1), (Collisions.m0p0, b.m0, b.p0), (Collisions.m1p0, b.m1, b.p0),
        (Collisions.m1p1, b.m1, b.p1), (Collisions.p0pf, b.p0, b.pf), (Collisions.p0bl, b.p0, b.bl),
        (Collisions.p1pf, b.p1, b.pf), (Collisions.p1bl, b.p1, b.bl), (Collisions.m0pf, b.m0, b.pf),
        (Collisions.m0bl, b.m0, b.bl), (Collisions.m1pf, b.m1, b.pf), (Collisions.m1bl, b.m1, b.bl),
        (Collisions.blpf, b.bl, b.pf), (Collisions.p0p1, b.p0, b.p1), (Collisions.m0m1, b.m0, b.m1)],
      p.1 t.tia.cx = (p.1 s.tia.cx || (p.2.1 && p.2.2)))

/-- The colour of a pixel: the fixed priority, or the default one with the score mode's two halves (R334).
The framebuffer: a tick writes the four bytes of pixel `(y, x)` on a visible clock of a stored line, black when
`VBLANK` or the comb blanks it, else the palette's colour of bits 7:1, alpha 0xFF; no other byte changes (R24, R335,
R336). -/
def Obligations.TickPixel : Prop :=
  (∀ (t : Tia) (x : Int) (b : Bits),
    (t.pfPriority = true → (b.pf || b.bl) = true → pixelColour t x b = t.colupf) ∧
    (t.pfPriority = true → (b.pf || b.bl) = false → (b.p0 || b.m0) = true → pixelColour t x b = t.p0.colu) ∧
    (t.pfPriority = true → (b.pf || b.bl) = false → (b.p0 || b.m0) = false → (b.p1 || b.m1) = true →
      pixelColour t x b = t.p1.colu) ∧
    (t.pfPriority = false → (b.p0 || b.m0) = true → pixelColour t x b = t.p0.colu) ∧
    (t.pfPriority = false → (b.p0 || b.m0) = false → (b.p1 || b.m1) = true → pixelColour t x b = t.p1.colu) ∧
    (t.pfPriority = false → (b.p0 || b.m0 || b.p1 || b.m1) = false → b.pf = true → t.pfScore = false →
      pixelColour t x b = t.colupf) ∧
    (t.pfPriority = false → (b.p0 || b.m0 || b.p1 || b.m1) = false → b.pf = true → t.pfScore = true →
      pixelColour t x b = if x < 80 then t.p0.colu else t.p1.colu) ∧
    (t.pfPriority = false → (b.p0 || b.m0 || b.p1 || b.m1 || b.pf) = false → b.bl = true →
      pixelColour t x b = t.colupf) ∧
    ((b.p0 || b.m0 || b.p1 || b.m1 || b.pf || b.bl) = false → pixelColour t x b = t.colubk)) ∧
  (∀ s u c, s.fatal = none → u = lockMissiles s.tia →
    c = (if s.tia.vblankBlank = true ∨ (s.tia.comb = true ∧ s.tia.x < 8) then ⟨0, 0, 0⟩
      else Config.palette s.tvFormat ((pixelColour u u.x (objectBits u u.x)).extractLsb' 1 7)) →
    ∃ t, exec .tiaTick s = .next t ∧
      ((s.tia.x < 0 ∨ s.tia.y < 0 ∨ 264 ≤ s.tia.y) → t.tia.fb = s.tia.fb) ∧
      (0 ≤ s.tia.x → 0 ≤ s.tia.y → s.tia.y < 264 → ∀ k : Nat,
        t.tia.fb.read k =
          if (k : Int) = 4 * (s.tia.y * 160 + s.tia.x) then c.r
          else if (k : Int) = 4 * (s.tia.y * 160 + s.tia.x) + 1 then c.g
          else if (k : Int) = 4 * (s.tia.y * 160 + s.tia.x) + 2 then c.b
          else if (k : Int) = 4 * (s.tia.y * 160 + s.tia.x) + 3 then 0xFF
          else s.tia.fb.read k))

/-- Only a single colour clock, or a snapshot that was not taken at a cycle boundary, can leave the beam off the
boundary of a processor cycle (R343 (c)). -/
def Obligations.CyclePhaseIsKept : Prop :=
  ∀ i s t, i ≠ .tiaTick → (∀ snap image, i ≠ .snapshotLoad snap image) → exec i s = .next t →
    (s.tia.x + 68) % 3 = 0 → (t.tia.x + 68) % 3 = 0

/-! ## Sound -/

/-- `APU.TICK`: the generators are clocked at one cycle in 38; every cycle adds the mixed value; every 27th (NTSC) or 26th
(PAL) appends a frame, the averaged sample's two bytes twice, unless fewer than four bytes are free; nothing else changes
(R400, R415, R416, R420). -/
def Obligations.ApuTick : Prop :=
  ∀ s u, s.fatal = none → u = s.apu → ∃ a acc, exec .apuTick s = .next { s with apu := a, reply := .none } ∧
    (u.clk = 37 → a.clk = 0 ∧ a.ch0 = u.ch0.clock ∧ a.ch1 = u.ch1.clock) ∧
    (u.clk ≠ 37 → a.clk = u.clk + 1 ∧ a.ch0 = u.ch0 ∧ a.ch1 = u.ch1) ∧
    acc = u.acc + (if a.ch0.out then a.ch0.audv.toNat else 0) + (if a.ch1.out then a.ch1.audv.toNat else 0) ∧
    (s.cycles % (match s.tvFormat with | .ntsc => 27 | .pal => 26) ≠ 0 → a.acc = acc ∧ a.n = u.n + 1 ∧ a.buf = u.buf) ∧
    (s.cycles % (match s.tvFormat with | .ntsc => 27 | .pal => 26) = 0 → a.acc = 0 ∧ a.n = 0 ∧
      (16380 < u.buf.length → a.buf = u.buf) ∧
      (u.buf.length ≤ 16380 → ∃ v : BitVec 16, v = BitVec.ofNat 16 (acc * 32767 / (30 * (u.n + 1))) ∧
        a.buf = u.buf ++ [v.extractLsb' 0 8, v.extractLsb' 8 8, v.extractLsb' 0 8, v.extractLsb' 8 8]))

/-- A channel's clock: the frequency divider, then the secondary counter of the selector, then one step of its generator;
the volume, the selector and the frequency stay (R401, R402, R406, R410). -/
def Obligations.ChannelClock : Prop :=
  ∀ (c : Channel) (pre : Nat), pre = (if c.audc = 0x2 then 15 else if 0xC ≤ c.audc then 3 else 1) →
    c.clock.audc = c.audc ∧ c.clock.audf = c.audf ∧ c.clock.audv = c.audv ∧
    (c.divCount < c.audf → c.clock = { c with divCount := c.divCount + 1 }) ∧
    (c.audf ≤ c.divCount → c.sub + 1 < pre → c.clock = { c with divCount := 0, sub := c.sub + 1 }) ∧
    (c.audf ≤ c.divCount → pre ≤ c.sub + 1 → c.clock =
      if c.audc = 0x0 ∨ c.audc = 0xB then { c with divCount := 0, sub := 0, out := true }
      else if c.audc = 0x1 ∨ c.audc = 0x2 then
        { c with divCount := 0, sub := 0, poly4 := step4 c.poly4, out := (step4 c.poly4).getLsbD 0 }
      else if c.audc = 0x3 then
        if (step5 c.poly5).getLsbD 0 then
          { c with divCount := 0, sub := 0, poly5 := step5 c.poly5, poly4 := step4 c.poly4
                   out := (step4 c.poly4).getLsbD 0 }
        else { c with divCount := 0, sub := 0, poly5 := step5 c.poly5, out := c.poly4.getLsbD 0 }
      else if c.audc = 0x4 ∨ c.audc = 0x5 ∨ c.audc = 0xC ∨ c.audc = 0xD then
        { c with divCount := 0, sub := 0, out := !c.out }
      else if c.audc = 0x6 ∨ c.audc = 0xA ∨ c.audc = 0xE then
        { c with divCount := 0, sub := 0, div31 := (c.div31 + 1) % 31, out := decide ((c.div31 + 1) % 31 < 13) }
      else if c.audc = 0x8 then
        { c with divCount := 0, sub := 0, poly9 := step9 c.poly9, out := (step9 c.poly9).getLsbD 0 }
      else { c with divCount := 0, sub := 0, poly5 := step5 c.poly5, out := (step5 c.poly5).getLsbD 0 })

/-- The three shift registers: shift right, feedback at the top; from the reset seeds the periods are exactly 15, 31 and
511, and zero is never reached (R405, R425).
Scenario D: with selector 1, frequency 0 and the register at its seed, `out` after the k-th clock is the four-bit noise
1,1,1,0,0,0,1,0,0,1,1,0,1,0,1 for ever (R425). -/
def Obligations.NoiseSequences : Prop :=
  ((∀ p k, (step4 p).getLsbD k = if k = 3 then (p.getLsbD 0 ^^ p.getLsbD 1) else p.getLsbD (k + 1)) ∧
  (∀ p k, (step5 p).getLsbD k = if k = 4 then (p.getLsbD 0 ^^ p.getLsbD 2) else p.getLsbD (k + 1)) ∧
  (∀ p k, (step9 p).getLsbD k = if k = 8 then (p.getLsbD 0 ^^ p.getLsbD 4) else p.getLsbD (k + 1)) ∧
  (∀ n, times step4 n 0xF ≠ 0 ∧ (times step4 n 0xF = 0xF ↔ n % 15 = 0)) ∧
  (∀ n, times step5 n 0x1F ≠ 0 ∧ (times step5 n 0x1F = 0x1F ↔ n % 31 = 0)) ∧
  (∀ n, times step9 n 0x1FF ≠ 0 ∧ (times step9 n 0x1FF = 0x1FF ↔ n % 511 = 0))) ∧
  (∀ (c : Channel) (k : Nat), c.audc = 0x1 → c.audf = 0 → c.poly4 = 0xF →
    some (times Channel.clock (k + 1) c).out =
      [true, true, true, false, false, false, true, false, false, true, true, false, true, false, true][k % 15]?)

/-! ## The scheduler -/

/-- `CYCLE` counts, then does the four ticks in the source's order and the fixed ratio, each as the operation of its own
row; and from the start of a line 76 cycles lead to the start of the next (R343, R443). -/
def Obligations.CycleOrderAndLine : Prop :=
  (∀ s, s.fatal = none → ∃ s1 s2 s3 s4 s5 s6,
    exec .timerTick { s with cycles := s.cycles + 1 } = .next s1 ∧ exec .mapperTick s1 = .next s2 ∧
    exec .tiaTick s2 = .next s3 ∧ exec .tiaTick s3 = .next s4 ∧ exec .tiaTick s4 = .next s5 ∧
    exec .apuTick s5 = .next s6 ∧ exec .cycle s = .next s6 ∧ s6.cycles = s.cycles + 1) ∧
  (∀ s, s.fatal = none → s.tia.x = -68 → ∃ t, exec (.run 76) s = .next t ∧
    t.tia.x = -68 ∧ t.tia.y = min (s.tia.y + 1) 320 ∧ t.tia.waitHBlank = false ∧ t.cycles = s.cycles + 76 ∧
    t.tia.pfActive = s.tia.pfToLoad)

/-- `RUN 0` performs no cycle and samples the input; `RUN (n + 1)` is a cycle and then `RUN n`; and `RUN (a + b)` leaves the
same state as `RUN a` followed by `RUN b`, although the latter samples the input once more (R442). -/
def Obligations.RunAdds : Prop :=
  ∀ s, s.fatal = none →
    exec (.run 0) s = exec .inputSample s ∧
    (∀ n, ∃ t, exec .cycle s = .next t ∧ exec (.run (n + 1)) s = exec (.run n) t) ∧
    (∀ a b, s.io.paddleStart ≤ s.cycles → ∃ t, exec (.run a) s = .next t ∧ exec (.run (a + b)) s = exec (.run b) t)

/-- `STEP` when not stalled is the core's events, each as a request of its own, in the core's own order; the caller gets
the bytes the core read. Stalled, it is `RUN 1`, whatever the core would do (R4, R440, R441). That the bytes are the
answer is the model's choice (log entry 12). -/
def Obligations.StepOperation : Prop :=
  (∀ events s, s.fatal = none → s.tia.waitHBlank = false → ∃ vs u, runRequests events s = some (vs, u) ∧
    exec (.step events) s = .next { u with reply := .bytes vs }) ∧
  (∀ events s, s.fatal = none → s.tia.waitHBlank = true → exec (.step events) s = exec (.run 1) s)

/-- The stall: a stalled `STEP` is exactly `RUN 1`, whatever instruction it is given; from a boundary between cycles, after
exactly `(160 - x) / 3` stalled steps, at most 76, the beam is at the start of a line and the flag is clear, and not
before; every step completes (R441). -/
def Obligations.StallEnds : Prop :=
  ∀ events s (k : Nat), s.fatal = none → s.tia.waitHBlank = true → -68 ≤ s.tia.x → s.tia.x < 160 →
    (s.tia.x + 68) % 3 = 0 → (k : Int) = (160 - s.tia.x) / 3 →
    1 ≤ k ∧ k ≤ 76 ∧ exec (.step events) s = exec (.run 1) s ∧
    (∃ t, stepTimes events k s = some t ∧ t.tia.waitHBlank = false ∧ t.tia.x = -68 ∧ t.cycles = s.cycles + k) ∧
    (∀ j, j < k → ∃ t, stepTimes events j s = some t ∧ t.tia.waitHBlank = true)

/-- `INPUT.SAMPLE`: a latch goes low when its port is a joystick, latching is on and the button is pressed; a paddle's
flag is false under the dump and becomes true once the scanlines since its release reach the threshold of its position;
nothing else changes (R387, R445, R446). -/
def Obligations.InputSample : Prop :=
  ∀ s, s.fatal = none → ∃ io, exec .inputSample s = .next { s with io := io, reply := .none } ∧
    io.swchaOut = s.io.swchaOut ∧ io.swacnt = s.io.swacnt ∧ io.swchbOut = s.io.swchbOut ∧ io.swbcnt = s.io.swbcnt ∧
    io.paddleStart = s.io.paddleStart ∧
    (∀ p ∈ [(Io.inptLatch0, s.mode0, s.input.joy0.button), (Io.inptLatch1, s.mode1, s.input.joy1.button)],
      p.1 io = if s.tia.vblankLatch = true ∧ p.2.1 = .joystick ∧ p.2.2 = true then false else p.1 s.io) ∧
    (∀ p ∈ [(Io.paddleCharged0, s.mode0, s.input.paddle0.pos), (Io.paddleCharged1, s.mode0, s.input.paddle1.pos),
        (Io.paddleCharged2, s.mode1, s.input.paddle2.pos), (Io.paddleCharged3, s.mode1, s.input.paddle3.pos)],
      (p.2.1 ≠ .paddle → p.1 io = p.1 s.io) ∧
      (p.2.1 = .paddle → s.tia.vblankDump = true → p.1 io = false) ∧
      (p.2.1 = .paddle → s.tia.vblankDump = false →
        p.1 io = (p.1 s.io || decide ((p.2.2 + 135) * 380 / 270 ≤ ((s.cycles - s.io.paddleStart) / 76 : Nat)))))

/-! ## The host -/

/-- The host's queries and `SETINPUT`: the flag is cleared by its query, the framebuffer read changes nothing, a sound read
takes whole frames from the front of the buffer, and an input record replaces the old one whole, unless a paddle position
is outside -135..135 (R380, R460 to R463). That a fatal state refuses such a record too, and is not stuck first, is the
model's choice (log entry 9). -/
def Obligations.HostQueries : Prop :=
  ∀ s : State,
    exec .frameReady s = .next { s with
      tia := { s.tia with frameReady := false }, reply := .flag s.tia.frameReady } ∧
    exec .readFb s = .next { s with reply := .framebuffer s.tia.fb } ∧
    (∀ n, ∃ k, k ≤ n ∧ k ≤ s.apu.buf.length ∧ k % 4 = 0 ∧ (n < k + 4 ∨ s.apu.buf.length < k + 4) ∧
      exec (.readSound n) s = .next { s with
        apu := { s.apu with buf := s.apu.buf.drop k }, reply := .bytes (s.apu.buf.take k) }) ∧
    (∀ i : Input, (∃ p ∈ [i.paddle0, i.paddle1, i.paddle2, i.paddle3], p.pos < -135 ∨ 135 < p.pos) →
      exec (.setInput i) s = .refused .paddleOutOfRange) ∧
    (∀ i : Input, s.fatal = none → (∀ p ∈ [i.paddle0, i.paddle1, i.paddle2, i.paddle3], -135 ≤ p.pos ∧ p.pos ≤ 135) →
      exec (.setInput i) s = .next { s with input := i, reply := .none })

/-- Save and load: saving changes no state; loading what was saved, with the same image, into any live instance gives the
saved state in every spec's path; and the load of a state in range is a request the invariant admits. What no snapshot
holds, the waiting requests, the count of draws and what power-on handed the core, stays (R466, R467; log entries 13 and
14). That a state whose run has ended can still be saved is the model's choice (log entry 8). -/
def Obligations.SnapshotRoundTrip : Prop :=
  ∀ s, ∃ snap, exec .snapshotSave s = .next { s with reply := .snapshot snap } ∧
    (s.ok = true → Request.ok (encode (.snapshotLoad snap s.image)) = true) ∧
    ∀ u, u.fatal = none → exec (.snapshotLoad snap s.image) u = .next { s with
      coreStart := u.coreStart, inbox := u.inbox, draws := u.draws, reply := .loaded }

/-- `SNAPSHOT.LOAD` checks the version first, then the tag, and nothing else; a failure changes nothing and reports the
version or the tag found. An older snapshot goes through `Config.migrate` (R467, R483). The model's choices: the anomalies
are restored with the other paths (log entry 13); what power-on handed the core, the waiting requests and the count of
draws stay those of the live instance (13, 14); what `Config.migrate` gives is of the current version (15); a snapshot or
an image outside the ranges of `10_state.md` is loaded as it is (26). -/
def Obligations.SnapshotLoadChecks : Prop :=
  ∀ snap image s, s.fatal = none → exec (.snapshotLoad snap image) s = .next (
    if Config.snapVersion < snap.version then { s with reply := .loadFailed .futureVersion snap.version }
    else
      match (if snap.version = Config.snapVersion then some snap else Config.migrate snap) with
      | none => { s with reply := .loadFailed .unknownVersion snap.version }
      | some r =>
        match r.mapper with
        | .unknownTag t => { s with reply := .loadFailed .unknownMapperTag t.val.toNat }
        | .variant m => { s with
            cycles := r.cycles
            bus := ⟨r.ram, m, r.lastReadAddr, r.lastWriteAddr, r.lastAccessAddr⟩
            timer := r.timer, tia := r.tia, apu := r.apu, io := r.io, input := r.input, fatal := r.fatal
            anomalies := r.anomalies, image := image, tvFormat := r.tvFormat, mode0 := r.mode0, mode1 := r.mode1
            reply := .loaded })

/-- The reset values of R511: zero, false or empty, but for the start of the line, the timer's divider, the two input
latches, the shift registers and DPC's generator; nothing is pressed and every paddle is at 0 (R380); each variant's record
when it is selected afresh (R22). No cartridge,
NTSC and two joysticks are the model's choice for the state before any power-on (log entry 2), and so are the values of
the model's own fields (log entries 1, 3, 11 and 14). -/
def Obligations.ResetValues : Prop :=
  State.reset.cycles = 0 ∧ State.reset.bus = ⟨[], .unknown, 0, 0, 0⟩ ∧ State.reset.timer = ⟨0, .d1024, 1024, false, false⟩ ∧
  State.reset.tia = {
    x := -68, y := 0, frameReady := false, waitHBlank := false, vsync := false, lastFrameLines := 0
    vblankBlank := false, vblankLatch := false, vblankDump := false, fb := []
    p0 := ⟨0, 0, 0, 0, 0, false, false, 0⟩, p1 := ⟨0, 0, 0, 0, 0, false, false, 0⟩
    m0 := ⟨0, 0, false, 0, false⟩, m1 := ⟨0, 0, false, 0, false⟩, bl := ⟨0, 0, false, false, false, 0⟩
    pfToLoad := 0, pfActive := 0, pfReflect := false, pfScore := false, pfPriority := false, colupf := 0, colubk := 0
    cx := ⟨false, false, false, false, false, false, false, false, false, false, false, false, false, false, false⟩
    hmovePending := false, hmoveLate := false, comb := false } ∧
  State.reset.io = ⟨0, 0, 0, 0, true, true, 0, false, false, false, false⟩ ∧
  State.reset.apu = ⟨⟨0, 0, 0, 0, 0, 0xF, 0x1F, 0x1FF, 0, false⟩, ⟨0, 0, 0, 0, 0, 0xF, 0x1F, 0x1FF, 0, false⟩, 0, 0, 0, []⟩ ∧
  State.reset.fatal = none ∧ State.reset.anomalies = [] ∧
  State.reset.input = {
    joy0 := ⟨false, false, false, false, false⟩, joy1 := ⟨false, false, false, false, false⟩
    paddle0 := ⟨false, 0⟩, paddle1 := ⟨false, 0⟩, paddle2 := ⟨false, 0⟩, paddle3 := ⟨false, 0⟩
    reset := false, select := false, diff0 := false, diff1 := false
    keypad0 := ⟨⟨false, false, false⟩, ⟨false, false, false⟩, ⟨false, false, false⟩, ⟨false, false, false⟩⟩
    keypad1 := ⟨⟨false, false, false⟩, ⟨false, false, false⟩, ⟨false, false, false⟩, ⟨false, false, false⟩⟩ } ∧
  State.reset.image = ⟨0, []⟩ ∧ State.reset.tvFormat = .ntsc ∧ State.reset.mode0 = .joystick ∧
  State.reset.mode1 = .joystick ∧ State.reset.coreStart = none ∧ State.reset.inbox = [] ∧ State.reset.reply = .none ∧
  State.reset.draws = 0 ∧
  fresh .unknown = .unknown ∧ fresh .f8 = .std ⟨.f8, 0, false, []⟩ ∧ fresh .f6 = .std ⟨.f6, 0, false, []⟩ ∧
  fresh .f4 = .std ⟨.f4, 0, false, []⟩ ∧ fresh .fa = .fa ⟨0, []⟩ ∧ fresh .f0 = .f0 0 ∧ fresh .e0 = .e0 ⟨0, 0, 0⟩ ∧
  fresh .m3f = .m3f 0 ∧ fresh .fe = .fe 0 ∧ fresh .e7 = .e7 ⟨0, 0, [], []⟩ ∧
  (∃ ptr, fresh .dpc = .dpc ⟨0, ptr, 1, 0⟩ ∧ ∀ i, i < 8 → ptr.get i = ⟨0, 0, 0, 0, false⟩) ∧
  fresh .ar66 = .ar66 ⟨[], 0, 0, false, 0, 0, 0⟩ ∧ fresh .c0 = .c0 []

/-- `POWERON` from any state, even a fatal one: every element at its reset value, with the arguments; the variant by the
table of hashes, else by the image's length; `UnrecognizedCartSize` with the length where there is none; else
`MAPPER.INIT` and the core's start, with the "66" entry address (R144, R145, R147, R447, R482, R510). A table entry that
does not fit the length counts as unrecognized (U14); the lengths are those of R141, with `Unknown` fitting what log
entry 21 says. What is handed the core is State's `coreStart` (log entry 14). -/
def Obligations.PowerOn : Prop :=
  (∀ v n, fitsLength v n = true ↔ fits v n) ∧
  (∀ image format mode0 mode1 s u n, n = image.size →
    u = { State.reset with
      image := image, tvFormat := format, mode0 := mode0, mode1 := mode1, inbox := s.inbox, draws := s.draws } →
    ∃ t, exec (.powerOn image format mode0 mode1) s = .next t ∧
      match (if n = 0 then none
        else match (Config.knownHashes.find? (fun e => e.1 == Config.hashFn image)).map (fun e => e.2) with
          | some v => if fitsLength v n then some v else none
          | none =>
            if n = 8448 then some .ar66
            else if n ≤ 4096 ∨ n = 8192 ∨ n = 12288 ∨ n = 16384 ∨ n = 32768 ∨ n = 65536 then some .unknown
            else none) with
      | none => t = { u with fatal := some ⟨.unrecognizedCartSize, n⟩ }
      | some v => ∃ r, exec .mapperInit (withMapper (fresh v) u) = .next r ∧
          t = { r with coreStart := some ⟨true, match r.bus.mapper with | .ar66 m => some m.entry | _ => none⟩ })

/-- `FORMAT.CLASSIFY` answers PAL exactly when 20 consecutive counts are above 263, and changes nothing (R470). That it still answers on a state
whose run has ended is the model's choice (log entry 8). -/
def Obligations.FormatClassify : Prop :=
  ∀ counts s, ∃ f, exec (.formatClassify counts) s = .next { s with reply := .format f } ∧
    (f = .pal ↔ ∃ before run after, counts = before ++ run ++ after ∧ run.length = 20 ∧ ∀ n ∈ run, 263 < n)

/-- `fatal` is raised by `POWERON` only and never cleared; `SNAPSHOT.LOAD` alone may install a state that holds one
(R481).
Nothing but `CYCLE`, `RUN`, `STEP`, power-on and a loaded snapshot moves the cycle counter (R443: "This is the only
place `cycles` changes"). -/
def Obligations.FatalAndCyclesAreKept : Prop :=
  (∀ i s t, (∀ image format mode0 mode1, i ≠ .powerOn image format mode0 mode1) →
    (∀ snap image, i ≠ .snapshotLoad snap image) → exec i s = .next t → t.fatal = s.fatal) ∧
  (∀ i s t, i ≠ .cycle → (∀ n, i ≠ .run n) → (∀ events, i ≠ .step events) →
    (∀ image format mode0 mode1, i ≠ .powerOn image format mode0 mode1) →
    (∀ snap image, i ≠ .snapshotLoad snap image) → exec i s = .next t → t.cycles = s.cycles)

/-! ## The invariant -/

/-- The state after reset is in range, with no request waiting, and its beam is on a cycle boundary (R44, R343, R511). -/
def Obligations.InvariantAtReset : Prop := State.reset.safe = true ∧ State.reset.onCycle = true

/-- Every step keeps every state element in its declared range and every byte array in its canonical form, from every
state that is in range, not only from reset (R22 to R27, R40 to R44, R446). The invariant also says that the snapshots and
images that wait to be loaded are in range, since `SNAPSHOT.LOAD` and `POWERON` take them as they are (log entry 26). -/
def Obligations.StepKeepsInvariant : Prop :=
  ∀ s t, s.safe = true → step s = .next t → t.safe = true
end

