-- ==== Sys2Proof/Laws/Exec.lean ====
section
/-! SUPPORT. The dispatch, one lemma per operation, true by `rfl`: a proof about `exec` rewrites with these and never
unfolds the match. -/

namespace Sys2Proof.Machine

@[simp] theorem exec_vsync (addr : Addr) (d : Byte) (s : State) : exec (.vsync addr d) s = execVsync addr d s := rfl
@[simp] theorem exec_vblank (addr : Addr) (d : Byte) (s : State) : exec (.vblank addr d) s = execVblank addr d s := rfl
@[simp] theorem exec_wsync (addr : Addr) (d : Byte) (s : State) : exec (.wsync addr d) s = execWsync addr d s := rfl
@[simp] theorem exec_rsync (addr : Addr) (d : Byte) (s : State) : exec (.rsync addr d) s = execRsync addr d s := rfl
@[simp] theorem exec_nusiz0 (addr : Addr) (d : Byte) (s : State) : exec (.nusiz0 addr d) s = execNusiz0 addr d s := rfl
@[simp] theorem exec_nusiz1 (addr : Addr) (d : Byte) (s : State) : exec (.nusiz1 addr d) s = execNusiz1 addr d s := rfl
@[simp] theorem exec_colup0 (addr : Addr) (d : Byte) (s : State) : exec (.colup0 addr d) s = execColup0 addr d s := rfl
@[simp] theorem exec_colup1 (addr : Addr) (d : Byte) (s : State) : exec (.colup1 addr d) s = execColup1 addr d s := rfl
@[simp] theorem exec_colupf (addr : Addr) (d : Byte) (s : State) : exec (.colupf addr d) s = execColupf addr d s := rfl
@[simp] theorem exec_colubk (addr : Addr) (d : Byte) (s : State) : exec (.colubk addr d) s = execColubk addr d s := rfl
@[simp] theorem exec_ctrlpf (addr : Addr) (d : Byte) (s : State) : exec (.ctrlpf addr d) s = execCtrlpf addr d s := rfl
@[simp] theorem exec_refp0 (addr : Addr) (d : Byte) (s : State) : exec (.refp0 addr d) s = execRefp0 addr d s := rfl
@[simp] theorem exec_refp1 (addr : Addr) (d : Byte) (s : State) : exec (.refp1 addr d) s = execRefp1 addr d s := rfl
@[simp] theorem exec_pf0 (addr : Addr) (d : Byte) (s : State) : exec (.pf0 addr d) s = execPf0 addr d s := rfl
@[simp] theorem exec_pf1 (addr : Addr) (d : Byte) (s : State) : exec (.pf1 addr d) s = execPf1 addr d s := rfl
@[simp] theorem exec_pf2 (addr : Addr) (d : Byte) (s : State) : exec (.pf2 addr d) s = execPf2 addr d s := rfl
@[simp] theorem exec_resp0 (addr : Addr) (d : Byte) (s : State) : exec (.resp0 addr d) s = execResp0 addr d s := rfl
@[simp] theorem exec_resp1 (addr : Addr) (d : Byte) (s : State) : exec (.resp1 addr d) s = execResp1 addr d s := rfl
@[simp] theorem exec_resm0 (addr : Addr) (d : Byte) (s : State) : exec (.resm0 addr d) s = execResm0 addr d s := rfl
@[simp] theorem exec_resm1 (addr : Addr) (d : Byte) (s : State) : exec (.resm1 addr d) s = execResm1 addr d s := rfl
@[simp] theorem exec_resbl (addr : Addr) (d : Byte) (s : State) : exec (.resbl addr d) s = execResbl addr d s := rfl
@[simp] theorem exec_audc0 (addr : Addr) (d : Byte) (s : State) : exec (.audc0 addr d) s = execAudc0 addr d s := rfl
@[simp] theorem exec_audc1 (addr : Addr) (d : Byte) (s : State) : exec (.audc1 addr d) s = execAudc1 addr d s := rfl
@[simp] theorem exec_audf0 (addr : Addr) (d : Byte) (s : State) : exec (.audf0 addr d) s = execAudf0 addr d s := rfl
@[simp] theorem exec_audf1 (addr : Addr) (d : Byte) (s : State) : exec (.audf1 addr d) s = execAudf1 addr d s := rfl
@[simp] theorem exec_audv0 (addr : Addr) (d : Byte) (s : State) : exec (.audv0 addr d) s = execAudv0 addr d s := rfl
@[simp] theorem exec_audv1 (addr : Addr) (d : Byte) (s : State) : exec (.audv1 addr d) s = execAudv1 addr d s := rfl
@[simp] theorem exec_grp0 (addr : Addr) (d : Byte) (s : State) : exec (.grp0 addr d) s = execGrp0 addr d s := rfl
@[simp] theorem exec_grp1 (addr : Addr) (d : Byte) (s : State) : exec (.grp1 addr d) s = execGrp1 addr d s := rfl
@[simp] theorem exec_enam0 (addr : Addr) (d : Byte) (s : State) : exec (.enam0 addr d) s = execEnam0 addr d s := rfl
@[simp] theorem exec_enam1 (addr : Addr) (d : Byte) (s : State) : exec (.enam1 addr d) s = execEnam1 addr d s := rfl
@[simp] theorem exec_enabl (addr : Addr) (d : Byte) (s : State) : exec (.enabl addr d) s = execEnabl addr d s := rfl
@[simp] theorem exec_hmp0 (addr : Addr) (d : Byte) (s : State) : exec (.hmp0 addr d) s = execHmp0 addr d s := rfl
@[simp] theorem exec_hmp1 (addr : Addr) (d : Byte) (s : State) : exec (.hmp1 addr d) s = execHmp1 addr d s := rfl
@[simp] theorem exec_hmm0 (addr : Addr) (d : Byte) (s : State) : exec (.hmm0 addr d) s = execHmm0 addr d s := rfl
@[simp] theorem exec_hmm1 (addr : Addr) (d : Byte) (s : State) : exec (.hmm1 addr d) s = execHmm1 addr d s := rfl
@[simp] theorem exec_hmbl (addr : Addr) (d : Byte) (s : State) : exec (.hmbl addr d) s = execHmbl addr d s := rfl
@[simp] theorem exec_vdelp0 (addr : Addr) (d : Byte) (s : State) : exec (.vdelp0 addr d) s = execVdelp0 addr d s := rfl
@[simp] theorem exec_vdelp1 (addr : Addr) (d : Byte) (s : State) : exec (.vdelp1 addr d) s = execVdelp1 addr d s := rfl
@[simp] theorem exec_vdelbl (addr : Addr) (d : Byte) (s : State) : exec (.vdelbl addr d) s = execVdelbl addr d s := rfl
@[simp] theorem exec_resmp0 (addr : Addr) (d : Byte) (s : State) : exec (.resmp0 addr d) s = execResmp0 addr d s := rfl
@[simp] theorem exec_resmp1 (addr : Addr) (d : Byte) (s : State) : exec (.resmp1 addr d) s = execResmp1 addr d s := rfl
@[simp] theorem exec_hmove (addr : Addr) (d : Byte) (s : State) : exec (.hmove addr d) s = execHmove addr d s := rfl
@[simp] theorem exec_hmclr (addr : Addr) (d : Byte) (s : State) : exec (.hmclr addr d) s = execHmclr addr d s := rfl
@[simp] theorem exec_cxclr (addr : Addr) (d : Byte) (s : State) : exec (.cxclr addr d) s = execCxclr addr d s := rfl
@[simp] theorem exec_tiaw2D (addr : Addr) (d : Byte) (s : State) : exec (.tiaw2D addr d) s = execTiaw2D addr d s := rfl
@[simp] theorem exec_tiaw2E (addr : Addr) (d : Byte) (s : State) : exec (.tiaw2E addr d) s = execTiaw2E addr d s := rfl
@[simp] theorem exec_tiaw2F (addr : Addr) (d : Byte) (s : State) : exec (.tiaw2F addr d) s = execTiaw2F addr d s := rfl
@[simp] theorem exec_tiaw30 (addr : Addr) (d : Byte) (s : State) : exec (.tiaw30 addr d) s = execTiaw30 addr d s := rfl
@[simp] theorem exec_tiaw31 (addr : Addr) (d : Byte) (s : State) : exec (.tiaw31 addr d) s = execTiaw31 addr d s := rfl
@[simp] theorem exec_tiaw32 (addr : Addr) (d : Byte) (s : State) : exec (.tiaw32 addr d) s = execTiaw32 addr d s := rfl
@[simp] theorem exec_tiaw33 (addr : Addr) (d : Byte) (s : State) : exec (.tiaw33 addr d) s = execTiaw33 addr d s := rfl
@[simp] theorem exec_tiaw34 (addr : Addr) (d : Byte) (s : State) : exec (.tiaw34 addr d) s = execTiaw34 addr d s := rfl
@[simp] theorem exec_tiaw35 (addr : Addr) (d : Byte) (s : State) : exec (.tiaw35 addr d) s = execTiaw35 addr d s := rfl
@[simp] theorem exec_tiaw36 (addr : Addr) (d : Byte) (s : State) : exec (.tiaw36 addr d) s = execTiaw36 addr d s := rfl
@[simp] theorem exec_tiaw37 (addr : Addr) (d : Byte) (s : State) : exec (.tiaw37 addr d) s = execTiaw37 addr d s := rfl
@[simp] theorem exec_tiaw38 (addr : Addr) (d : Byte) (s : State) : exec (.tiaw38 addr d) s = execTiaw38 addr d s := rfl
@[simp] theorem exec_tiaw39 (addr : Addr) (d : Byte) (s : State) : exec (.tiaw39 addr d) s = execTiaw39 addr d s := rfl
@[simp] theorem exec_tiaw3A (addr : Addr) (d : Byte) (s : State) : exec (.tiaw3A addr d) s = execTiaw3A addr d s := rfl
@[simp] theorem exec_tiaw3B (addr : Addr) (d : Byte) (s : State) : exec (.tiaw3B addr d) s = execTiaw3B addr d s := rfl
@[simp] theorem exec_tiaw3C (addr : Addr) (d : Byte) (s : State) : exec (.tiaw3C addr d) s = execTiaw3C addr d s := rfl
@[simp] theorem exec_tiaw3D (addr : Addr) (d : Byte) (s : State) : exec (.tiaw3D addr d) s = execTiaw3D addr d s := rfl
@[simp] theorem exec_tiaw3E (addr : Addr) (d : Byte) (s : State) : exec (.tiaw3E addr d) s = execTiaw3E addr d s := rfl
@[simp] theorem exec_tiaw3F (addr : Addr) (d : Byte) (s : State) : exec (.tiaw3F addr d) s = execTiaw3F addr d s := rfl
@[simp] theorem exec_cxm0p (addr : Addr) (s : State) : exec (.cxm0p addr) s = execCxm0p addr s := rfl
@[simp] theorem exec_cxm1p (addr : Addr) (s : State) : exec (.cxm1p addr) s = execCxm1p addr s := rfl
@[simp] theorem exec_cxp0fb (addr : Addr) (s : State) : exec (.cxp0fb addr) s = execCxp0fb addr s := rfl
@[simp] theorem exec_cxp1fb (addr : Addr) (s : State) : exec (.cxp1fb addr) s = execCxp1fb addr s := rfl
@[simp] theorem exec_cxm0fb (addr : Addr) (s : State) : exec (.cxm0fb addr) s = execCxm0fb addr s := rfl
@[simp] theorem exec_cxm1fb (addr : Addr) (s : State) : exec (.cxm1fb addr) s = execCxm1fb addr s := rfl
@[simp] theorem exec_cxblpf (addr : Addr) (s : State) : exec (.cxblpf addr) s = execCxblpf addr s := rfl
@[simp] theorem exec_cxppmm (addr : Addr) (s : State) : exec (.cxppmm addr) s = execCxppmm addr s := rfl
@[simp] theorem exec_inpt0 (addr : Addr) (s : State) : exec (.inpt0 addr) s = execInpt0 addr s := rfl
@[simp] theorem exec_inpt1 (addr : Addr) (s : State) : exec (.inpt1 addr) s = execInpt1 addr s := rfl
@[simp] theorem exec_inpt2 (addr : Addr) (s : State) : exec (.inpt2 addr) s = execInpt2 addr s := rfl
@[simp] theorem exec_inpt3 (addr : Addr) (s : State) : exec (.inpt3 addr) s = execInpt3 addr s := rfl
@[simp] theorem exec_inpt4 (addr : Addr) (s : State) : exec (.inpt4 addr) s = execInpt4 addr s := rfl
@[simp] theorem exec_inpt5 (addr : Addr) (s : State) : exec (.inpt5 addr) s = execInpt5 addr s := rfl
@[simp] theorem exec_tiarE (addr : Addr) (s : State) : exec (.tiarE addr) s = execTiarE addr s := rfl
@[simp] theorem exec_tiarF (addr : Addr) (s : State) : exec (.tiarF addr) s = execTiarF addr s := rfl
@[simp] theorem exec_ramRd (addr : Addr) (s : State) : exec (.ramRd addr) s = execRamRd addr s := rfl
@[simp] theorem exec_ramWr (addr : Addr) (d : Byte) (s : State) : exec (.ramWr addr d) s = execRamWr addr d s := rfl
@[simp] theorem exec_swchaRd (addr : Addr) (s : State) : exec (.swchaRd addr) s = execSwchaRd addr s := rfl
@[simp] theorem exec_swchaWr (addr : Addr) (d : Byte) (s : State) :
    exec (.swchaWr addr d) s = execSwchaWr addr d s := rfl
@[simp] theorem exec_swacntRd (addr : Addr) (s : State) : exec (.swacntRd addr) s = execSwacntRd addr s := rfl
@[simp] theorem exec_swacntWr (addr : Addr) (d : Byte) (s : State) :
    exec (.swacntWr addr d) s = execSwacntWr addr d s := rfl
@[simp] theorem exec_swchbRd (addr : Addr) (s : State) : exec (.swchbRd addr) s = execSwchbRd addr s := rfl
@[simp] theorem exec_swchbWr (addr : Addr) (d : Byte) (s : State) :
    exec (.swchbWr addr d) s = execSwchbWr addr d s := rfl
@[simp] theorem exec_swbcntRd (addr : Addr) (s : State) : exec (.swbcntRd addr) s = execSwbcntRd addr s := rfl
@[simp] theorem exec_swbcntWr (addr : Addr) (d : Byte) (s : State) :
    exec (.swbcntWr addr d) s = execSwbcntWr addr d s := rfl
@[simp] theorem exec_intim (addr : Addr) (s : State) : exec (.intim addr) s = execIntim addr s := rfl
@[simp] theorem exec_timint (addr : Addr) (s : State) : exec (.timint addr) s = execTimint addr s := rfl
@[simp] theorem exec_tim1t (addr : Addr) (d : Byte) (s : State) : exec (.tim1t addr d) s = execTim1t addr d s := rfl
@[simp] theorem exec_tim8t (addr : Addr) (d : Byte) (s : State) : exec (.tim8t addr d) s = execTim8t addr d s := rfl
@[simp] theorem exec_tim64t (addr : Addr) (d : Byte) (s : State) : exec (.tim64t addr d) s = execTim64t addr d s := rfl
@[simp] theorem exec_t1024t (addr : Addr) (d : Byte) (s : State) : exec (.t1024t addr d) s = execT1024t addr d s := rfl
@[simp] theorem exec_edgectl (addr : Addr) (d : Byte) (s : State) :
    exec (.edgectl addr d) s = execEdgectl addr d s := rfl
@[simp] theorem exec_unkRom (addr : Addr) (s : State) : exec (.unkRom addr) s = execUnkRom addr s := rfl
@[simp] theorem exec_unkWr (addr : Addr) (d : Byte) (s : State) : exec (.unkWr addr d) s = execUnkWr addr d s := rfl
@[simp] theorem exec_f8Bank0 (addr : Addr) (acc : Access) (s : State) :
    exec (.f8Bank0 addr acc) s = execF8Bank0 addr acc s := rfl
@[simp] theorem exec_f8Bank1 (addr : Addr) (acc : Access) (s : State) :
    exec (.f8Bank1 addr acc) s = execF8Bank1 addr acc s := rfl
@[simp] theorem exec_f8Scw (addr : Addr) (d : Byte) (s : State) : exec (.f8Scw addr d) s = execF8Scw addr d s := rfl
@[simp] theorem exec_f8Scr (addr : Addr) (s : State) : exec (.f8Scr addr) s = execF8Scr addr s := rfl
@[simp] theorem exec_f8Rom (addr : Addr) (s : State) : exec (.f8Rom addr) s = execF8Rom addr s := rfl
@[simp] theorem exec_f8Wr (addr : Addr) (d : Byte) (s : State) : exec (.f8Wr addr d) s = execF8Wr addr d s := rfl
@[simp] theorem exec_f6Bank0 (addr : Addr) (acc : Access) (s : State) :
    exec (.f6Bank0 addr acc) s = execF6Bank0 addr acc s := rfl
@[simp] theorem exec_f6Bank1 (addr : Addr) (acc : Access) (s : State) :
    exec (.f6Bank1 addr acc) s = execF6Bank1 addr acc s := rfl
@[simp] theorem exec_f6Bank2 (addr : Addr) (acc : Access) (s : State) :
    exec (.f6Bank2 addr acc) s = execF6Bank2 addr acc s := rfl
@[simp] theorem exec_f6Bank3 (addr : Addr) (acc : Access) (s : State) :
    exec (.f6Bank3 addr acc) s = execF6Bank3 addr acc s := rfl
@[simp] theorem exec_f6Scw (addr : Addr) (d : Byte) (s : State) : exec (.f6Scw addr d) s = execF6Scw addr d s := rfl
@[simp] theorem exec_f6Scr (addr : Addr) (s : State) : exec (.f6Scr addr) s = execF6Scr addr s := rfl
@[simp] theorem exec_f6Rom (addr : Addr) (s : State) : exec (.f6Rom addr) s = execF6Rom addr s := rfl
@[simp] theorem exec_f6Wr (addr : Addr) (d : Byte) (s : State) : exec (.f6Wr addr d) s = execF6Wr addr d s := rfl
@[simp] theorem exec_f4Bank0 (addr : Addr) (acc : Access) (s : State) :
    exec (.f4Bank0 addr acc) s = execF4Bank0 addr acc s := rfl
@[simp] theorem exec_f4Bank1 (addr : Addr) (acc : Access) (s : State) :
    exec (.f4Bank1 addr acc) s = execF4Bank1 addr acc s := rfl
@[simp] theorem exec_f4Bank2 (addr : Addr) (acc : Access) (s : State) :
    exec (.f4Bank2 addr acc) s = execF4Bank2 addr acc s := rfl
@[simp] theorem exec_f4Bank3 (addr : Addr) (acc : Access) (s : State) :
    exec (.f4Bank3 addr acc) s = execF4Bank3 addr acc s := rfl
@[simp] theorem exec_f4Bank4 (addr : Addr) (acc : Access) (s : State) :
    exec (.f4Bank4 addr acc) s = execF4Bank4 addr acc s := rfl
@[simp] theorem exec_f4Bank5 (addr : Addr) (acc : Access) (s : State) :
    exec (.f4Bank5 addr acc) s = execF4Bank5 addr acc s := rfl
@[simp] theorem exec_f4Bank6 (addr : Addr) (acc : Access) (s : State) :
    exec (.f4Bank6 addr acc) s = execF4Bank6 addr acc s := rfl
@[simp] theorem exec_f4Bank7 (addr : Addr) (acc : Access) (s : State) :
    exec (.f4Bank7 addr acc) s = execF4Bank7 addr acc s := rfl
@[simp] theorem exec_f4Scw (addr : Addr) (d : Byte) (s : State) : exec (.f4Scw addr d) s = execF4Scw addr d s := rfl
@[simp] theorem exec_f4Scr (addr : Addr) (s : State) : exec (.f4Scr addr) s = execF4Scr addr s := rfl
@[simp] theorem exec_f4Rom (addr : Addr) (s : State) : exec (.f4Rom addr) s = execF4Rom addr s := rfl
@[simp] theorem exec_f4Wr (addr : Addr) (d : Byte) (s : State) : exec (.f4Wr addr d) s = execF4Wr addr d s := rfl
@[simp] theorem exec_faBank0 (addr : Addr) (acc : Access) (s : State) :
    exec (.faBank0 addr acc) s = execFaBank0 addr acc s := rfl
@[simp] theorem exec_faBank1 (addr : Addr) (acc : Access) (s : State) :
    exec (.faBank1 addr acc) s = execFaBank1 addr acc s := rfl
@[simp] theorem exec_faBank2 (addr : Addr) (acc : Access) (s : State) :
    exec (.faBank2 addr acc) s = execFaBank2 addr acc s := rfl
@[simp] theorem exec_faRamw (addr : Addr) (acc : Access) (s : State) :
    exec (.faRamw addr acc) s = execFaRamw addr acc s := rfl
@[simp] theorem exec_faRamr (addr : Addr) (acc : Access) (s : State) :
    exec (.faRamr addr acc) s = execFaRamr addr acc s := rfl
@[simp] theorem exec_faRom (addr : Addr) (acc : Access) (s : State) :
    exec (.faRom addr acc) s = execFaRom addr acc s := rfl
@[simp] theorem exec_f0Next (addr : Addr) (acc : Access) (s : State) :
    exec (.f0Next addr acc) s = execF0Next addr acc s := rfl
@[simp] theorem exec_f0Rom (addr : Addr) (acc : Access) (s : State) :
    exec (.f0Rom addr acc) s = execF0Rom addr acc s := rfl
@[simp] theorem exec_e0S0 (addr : Addr) (acc : Access) (s : State) :
    exec (.e0S0 addr acc) s = execE0S0 addr acc s := rfl
@[simp] theorem exec_e0S1 (addr : Addr) (acc : Access) (s : State) :
    exec (.e0S1 addr acc) s = execE0S1 addr acc s := rfl
@[simp] theorem exec_e0S2 (addr : Addr) (acc : Access) (s : State) :
    exec (.e0S2 addr acc) s = execE0S2 addr acc s := rfl
@[simp] theorem exec_e0Rom (addr : Addr) (acc : Access) (s : State) :
    exec (.e0Rom addr acc) s = execE0Rom addr acc s := rfl
@[simp] theorem exec_m3fBank (addr : Addr) (d : Byte) (s : State) :
    exec (.m3fBank addr d) s = execM3fBank addr d s := rfl
@[simp] theorem exec_m3fRom (addr : Addr) (acc : Access) (s : State) :
    exec (.m3fRom addr acc) s = execM3fRom addr acc s := rfl
@[simp] theorem exec_feRom (addr : Addr) (acc : Access) (s : State) :
    exec (.feRom addr acc) s = execFeRom addr acc s := rfl
@[simp] theorem exec_c0Ramr (addr : Addr) (acc : Access) (s : State) :
    exec (.c0Ramr addr acc) s = execC0Ramr addr acc s := rfl
@[simp] theorem exec_c0Ramw (addr : Addr) (acc : Access) (s : State) :
    exec (.c0Ramw addr acc) s = execC0Ramw addr acc s := rfl
@[simp] theorem exec_c0Rom (addr : Addr) (acc : Access) (s : State) :
    exec (.c0Rom addr acc) s = execC0Rom addr acc s := rfl
@[simp] theorem exec_e7Bank0 (addr : Addr) (acc : Access) (s : State) :
    exec (.e7Bank0 addr acc) s = execE7Bank0 addr acc s := rfl
@[simp] theorem exec_e7Bank1 (addr : Addr) (acc : Access) (s : State) :
    exec (.e7Bank1 addr acc) s = execE7Bank1 addr acc s := rfl
@[simp] theorem exec_e7Bank2 (addr : Addr) (acc : Access) (s : State) :
    exec (.e7Bank2 addr acc) s = execE7Bank2 addr acc s := rfl
@[simp] theorem exec_e7Bank3 (addr : Addr) (acc : Access) (s : State) :
    exec (.e7Bank3 addr acc) s = execE7Bank3 addr acc s := rfl
@[simp] theorem exec_e7Bank4 (addr : Addr) (acc : Access) (s : State) :
    exec (.e7Bank4 addr acc) s = execE7Bank4 addr acc s := rfl
@[simp] theorem exec_e7Bank5 (addr : Addr) (acc : Access) (s : State) :
    exec (.e7Bank5 addr acc) s = execE7Bank5 addr acc s := rfl
@[simp] theorem exec_e7Bank6 (addr : Addr) (acc : Access) (s : State) :
    exec (.e7Bank6 addr acc) s = execE7Bank6 addr acc s := rfl
@[simp] theorem exec_e7Ramon (addr : Addr) (acc : Access) (s : State) :
    exec (.e7Ramon addr acc) s = execE7Ramon addr acc s := rfl
@[simp] theorem exec_e7Rbank0 (addr : Addr) (acc : Access) (s : State) :
    exec (.e7Rbank0 addr acc) s = execE7Rbank0 addr acc s := rfl
@[simp] theorem exec_e7Rbank1 (addr : Addr) (acc : Access) (s : State) :
    exec (.e7Rbank1 addr acc) s = execE7Rbank1 addr acc s := rfl
@[simp] theorem exec_e7Rbank2 (addr : Addr) (acc : Access) (s : State) :
    exec (.e7Rbank2 addr acc) s = execE7Rbank2 addr acc s := rfl
@[simp] theorem exec_e7Rbank3 (addr : Addr) (acc : Access) (s : State) :
    exec (.e7Rbank3 addr acc) s = execE7Rbank3 addr acc s := rfl
@[simp] theorem exec_e7LowRd (addr : Addr) (s : State) : exec (.e7LowRd addr) s = execE7LowRd addr s := rfl
@[simp] theorem exec_e7LowWr (addr : Addr) (d : Byte) (s : State) :
    exec (.e7LowWr addr d) s = execE7LowWr addr d s := rfl
@[simp] theorem exec_e7R256w (addr : Addr) (acc : Access) (s : State) :
    exec (.e7R256w addr acc) s = execE7R256w addr acc s := rfl
@[simp] theorem exec_e7R256r (addr : Addr) (acc : Access) (s : State) :
    exec (.e7R256r addr acc) s = execE7R256r addr acc s := rfl
@[simp] theorem exec_e7Fixed (addr : Addr) (acc : Access) (s : State) :
    exec (.e7Fixed addr acc) s = execE7Fixed addr acc s := rfl
@[simp] theorem exec_dpcBank0 (addr : Addr) (acc : Access) (s : State) :
    exec (.dpcBank0 addr acc) s = execDpcBank0 addr acc s := rfl
@[simp] theorem exec_dpcBank1 (addr : Addr) (acc : Access) (s : State) :
    exec (.dpcBank1 addr acc) s = execDpcBank1 addr acc s := rfl
@[simp] theorem exec_dpcRom (addr : Addr) (acc : Access) (s : State) :
    exec (.dpcRom addr acc) s = execDpcRom addr acc s := rfl
@[simp] theorem exec_dpcRdRng (addr : Addr) (s : State) : exec (.dpcRdRng addr) s = execDpcRdRng addr s := rfl
@[simp] theorem exec_dpcRdMusic (addr : Addr) (s : State) : exec (.dpcRdMusic addr) s = execDpcRdMusic addr s := rfl
@[simp] theorem exec_dpcRdData (addr : Addr) (s : State) : exec (.dpcRdData addr) s = execDpcRdData addr s := rfl
@[simp] theorem exec_dpcRdGated (addr : Addr) (s : State) : exec (.dpcRdGated addr) s = execDpcRdGated addr s := rfl
@[simp] theorem exec_dpcRdSwap (addr : Addr) (s : State) : exec (.dpcRdSwap addr) s = execDpcRdSwap addr s := rfl
@[simp] theorem exec_dpcRdRev (addr : Addr) (s : State) : exec (.dpcRdRev addr) s = execDpcRdRev addr s := rfl
@[simp] theorem exec_dpcRdRor (addr : Addr) (s : State) : exec (.dpcRdRor addr) s = execDpcRdRor addr s := rfl
@[simp] theorem exec_dpcRdRol (addr : Addr) (s : State) : exec (.dpcRdRol addr) s = execDpcRdRol addr s := rfl
@[simp] theorem exec_dpcRdFlag (addr : Addr) (s : State) : exec (.dpcRdFlag addr) s = execDpcRdFlag addr s := rfl
@[simp] theorem exec_dpcWrTop (addr : Addr) (d : Byte) (s : State) :
    exec (.dpcWrTop addr d) s = execDpcWrTop addr d s := rfl
@[simp] theorem exec_dpcWrBottom (addr : Addr) (d : Byte) (s : State) :
    exec (.dpcWrBottom addr d) s = execDpcWrBottom addr d s := rfl
@[simp] theorem exec_dpcWrLow (addr : Addr) (d : Byte) (s : State) :
    exec (.dpcWrLow addr d) s = execDpcWrLow addr d s := rfl
@[simp] theorem exec_dpcWrHigh (addr : Addr) (d : Byte) (s : State) :
    exec (.dpcWrHigh addr d) s = execDpcWrHigh addr d s := rfl
@[simp] theorem exec_dpcWrRngReset (addr : Addr) (d : Byte) (s : State) :
    exec (.dpcWrRngReset addr d) s = execDpcWrRngReset addr d s := rfl
@[simp] theorem exec_dpcWrNotImpl (addr : Addr) (d : Byte) (s : State) :
    exec (.dpcWrNotImpl addr d) s = execDpcWrNotImpl addr d s := rfl
@[simp] theorem exec_arLatch (addr : Addr) (acc : Access) (s : State) :
    exec (.arLatch addr acc) s = execArLatch addr acc s := rfl
@[simp] theorem exec_arCtrl (addr : Addr) (acc : Access) (s : State) :
    exec (.arCtrl addr acc) s = execArCtrl addr acc s := rfl
@[simp] theorem exec_arMemRd (addr : Addr) (s : State) : exec (.arMemRd addr) s = execArMemRd addr s := rfl
@[simp] theorem exec_arMemWr (addr : Addr) (d : Byte) (s : State) :
    exec (.arMemWr addr d) s = execArMemWr addr d s := rfl
@[simp] theorem exec_tiaTick (s : State) : exec (.tiaTick) s = execTiaTick s := rfl
@[simp] theorem exec_timerTick (s : State) : exec (.timerTick) s = execTimerTick s := rfl
@[simp] theorem exec_mapperTick (s : State) : exec (.mapperTick) s = execMapperTick s := rfl
@[simp] theorem exec_apuTick (s : State) : exec (.apuTick) s = execApuTick s := rfl
@[simp] theorem exec_cycle (s : State) : exec (.cycle) s = execCycle s := rfl
@[simp] theorem exec_run (n : Nat) (s : State) : exec (.run n) s = execRun n s := rfl
@[simp] theorem exec_step (events : List CoreEvent) (s : State) : exec (.step events) s = execStep events s := rfl
@[simp] theorem exec_frameReady (s : State) : exec (.frameReady) s = execFrameReady s := rfl
@[simp] theorem exec_readFb (s : State) : exec (.readFb) s = execReadFb s := rfl
@[simp] theorem exec_readSound (n : Nat) (s : State) : exec (.readSound n) s = execReadSound n s := rfl
@[simp] theorem exec_setInput (i : Input) (s : State) : exec (.setInput i) s = execSetInput i s := rfl
@[simp] theorem exec_snapshotSave (s : State) : exec (.snapshotSave) s = execSnapshotSave s := rfl
@[simp] theorem exec_snapshotLoad (snap : Snapshot) (image : Image) (s : State) :
    exec (.snapshotLoad snap image) s = execSnapshotLoad snap image s := rfl
@[simp] theorem exec_powerOn (image : Image) (format : TvFormat) (mode0 mode1 : ControllerMode) (s : State) :
    exec (.powerOn image format mode0 mode1) s = execPowerOn image format mode0 mode1 s := rfl
@[simp] theorem exec_mapperResolve (addr : Addr) (isWrite : Bool) (s : State) :
    exec (.mapperResolve addr isWrite) s = execMapperResolve addr isWrite s := rfl
@[simp] theorem exec_mapperInit (s : State) : exec (.mapperInit) s = execMapperInit s := rfl
@[simp] theorem exec_formatClassify (lines : List Int) (s : State) :
    exec (.formatClassify lines) s = execFormatClassify lines s := rfl
@[simp] theorem exec_inputSample (s : State) : exec (.inputSample) s = execInputSample s := rfl
@[simp] theorem exec_feTick (s : State) : exec (.feTick) s = execFeTick s := rfl
@[simp] theorem exec_dpcTick (s : State) : exec (.dpcTick) s = execDpcTick s := rfl
@[simp] theorem exec_arTick (s : State) : exec (.arTick) s = execArTick s := rfl
@[simp] theorem exec_ar66Initialize (s : State) : exec (.ar66Initialize) s = execAr66Initialize s := rfl

end Sys2Proof.Machine
end

