-- ==== Sys2Proof/Laws/Memory.lean ====
section
/-! SUPPORT. The laws of byte arrays: a write is read back, leaves every other byte alone, and keeps the canonical form
(R69). -/

namespace Sys2Proof.Machine

/-! ## Reading after a change -/

@[simp] theorem Mem.read_erase_same (m : Mem) (i : Nat) : (m.erase i).read i = 0 := by
  induction m with
  | nil => rfl
  | cons c rest ih =>
    obtain ⟨k, b⟩ := c
    by_cases h : k = i
    · simpa [Mem.erase, h] using ih
    · simpa [Mem.erase, Mem.read, h] using ih

theorem Mem.read_erase_other (m : Mem) {i j : Nat} (h : j ≠ i) : (m.erase i).read j = m.read j := by
  induction m with
  | nil => rfl
  | cons c rest ih =>
    obtain ⟨k, b⟩ := c
    by_cases hk : k = i
    · simp [Mem.erase, Mem.read, hk, ih, Ne.symm h]
    · simp [Mem.erase, Mem.read, hk, ih]

theorem Mem.read_insert_same (m : Mem) (i : Nat) (v : Byte) (h : ∀ b, (i, b) ∉ m) : (m.insert i v).read i = v := by
  induction m with
  | nil => simp [Mem.insert, Mem.read]
  | cons c rest ih =>
    obtain ⟨k, b⟩ := c
    have hk : k ≠ i := fun e => h b (by simp [e])
    by_cases hlt : i < k
    · simp [Mem.insert, Mem.read, hlt]
    · simpa [Mem.insert, Mem.read, hlt, hk] using ih (fun b hb => h b (by simp [hb]))

theorem Mem.read_insert_other (m : Mem) {i j : Nat} (v : Byte) (h : j ≠ i) : (m.insert i v).read j = m.read j := by
  induction m with
  | nil => simp [Mem.insert, Mem.read, Ne.symm h]
  | cons c rest ih =>
    obtain ⟨k, b⟩ := c
    by_cases hlt : i < k
    · simp [Mem.insert, Mem.read, hlt, Ne.symm h]
    · simp [Mem.insert, Mem.read, hlt, ih]

theorem Mem.not_mem_erase (m : Mem) (i : Nat) (b : Byte) : (i, b) ∉ m.erase i := by
  induction m with
  | nil => simp [Mem.erase]
  | cons c rest ih =>
    obtain ⟨k, v⟩ := c
    by_cases hk : k = i
    · simpa [Mem.erase, hk] using ih
    · simp [Mem.erase, hk, ih, Ne.symm hk]

/-- A byte written is the byte read back. -/
@[simp] theorem Mem.read_write_same (m : Mem) (i : Nat) (v : Byte) : (m.write i v).read i = v := by
  unfold Mem.write
  split
  · simp [*]
  · exact Mem.read_insert_same _ _ _ (Mem.not_mem_erase m i)

/-- A write leaves every other byte alone. -/
theorem Mem.read_write_other (m : Mem) {i j : Nat} (v : Byte) (h : j ≠ i) : (m.write i v).read j = m.read j := by
  unfold Mem.write
  split
  · exact Mem.read_erase_other m h
  · rw [Mem.read_insert_other _ _ h, Mem.read_erase_other m h]

/-- A byte after a write. -/
theorem Mem.read_write (m : Mem) (i j : Nat) (v : Byte) : (m.write i v).read j = if j = i then v else m.read j := by
  by_cases h : j = i
  · simp [h]
  · simp [h, Mem.read_write_other m v h]

/-! ## The canonical form -/

theorem Mem.wfFrom_mono {lo lo' : Nat} {m : Mem} (h : lo' ≤ lo) (w : Mem.wfFrom lo m = true) :
    Mem.wfFrom lo' m = true := by
  cases m with
  | nil => rfl
  | cons c rest =>
    obtain ⟨k, b⟩ := c
    simp only [Mem.wfFrom, Bool.and_eq_true, decide_eq_true_eq] at w ⊢
    exact ⟨⟨by omega, w.1.2⟩, w.2⟩

theorem Mem.wfFrom_erase {lo : Nat} {m : Mem} (i : Nat) (w : Mem.wfFrom lo m = true) :
    Mem.wfFrom lo (m.erase i) = true := by
  induction m generalizing lo with
  | nil => rfl
  | cons c rest ih =>
    obtain ⟨k, b⟩ := c
    simp only [Mem.wfFrom, Bool.and_eq_true, decide_eq_true_eq] at w
    by_cases h : k = i
    · simpa [Mem.erase, h] using Mem.wfFrom_mono (by omega) (ih w.2)
    · simp only [Mem.erase, h, if_false, Mem.wfFrom, Bool.and_eq_true, decide_eq_true_eq]
      exact ⟨w.1, ih w.2⟩

theorem Mem.wfFrom_insert {lo : Nat} {m : Mem} {i : Nat} {v : Byte} (hlo : lo ≤ i) (hv : v ≠ 0)
    (hi : ∀ b, (i, b) ∉ m) (w : Mem.wfFrom lo m = true) : Mem.wfFrom lo (m.insert i v) = true := by
  induction m generalizing lo with
  | nil => simpa [Mem.insert, Mem.wfFrom, hlo] using hv
  | cons c rest ih =>
    obtain ⟨k, b⟩ := c
    have hk : k ≠ i := fun e => hi b (by simp [e])
    simp only [Mem.wfFrom, Bool.and_eq_true, decide_eq_true_eq] at w
    by_cases h : i < k
    · simp only [Mem.insert, h, if_true, Mem.wfFrom, Bool.and_eq_true, decide_eq_true_eq]
      exact ⟨⟨hlo, hv⟩, ⟨by omega, w.1.2⟩, w.2⟩
    · simp only [Mem.insert, h, if_false, Mem.wfFrom, Bool.and_eq_true, decide_eq_true_eq]
      exact ⟨w.1, ih (by omega) (fun b hb => hi b (by simp [hb])) w.2⟩

/-- Every write keeps the canonical form. -/
theorem Mem.wf_write {m : Mem} (i : Nat) (v : Byte) (w : m.wf = true) : (m.write i v).wf = true := by
  unfold Mem.write
  split
  · exact Mem.wfFrom_erase i w
  · exact Mem.wfFrom_insert (Nat.zero_le i) ‹_› (Mem.not_mem_erase m i) (Mem.wfFrom_erase i w)

theorem Mem.below_erase {n : Nat} {m : Mem} (i : Nat) (h : Mem.below n m = true) : Mem.below n (m.erase i) = true := by
  induction m with
  | nil => rfl
  | cons c rest ih =>
    obtain ⟨k, b⟩ := c
    simp only [Mem.below, Bool.and_eq_true] at h
    by_cases hk : k = i
    · simpa [Mem.erase, hk] using ih h.2
    · simp [Mem.erase, hk, Mem.below, ih h.2, decide_eq_true_eq.mp h.1]

theorem Mem.below_insert {n : Nat} {m : Mem} {i : Nat} (v : Byte) (hi : i < n) (h : Mem.below n m = true) :
    Mem.below n (m.insert i v) = true := by
  induction m with
  | nil => simp [Mem.insert, Mem.below, hi]
  | cons c rest ih =>
    obtain ⟨k, b⟩ := c
    simp only [Mem.below, Bool.and_eq_true] at h
    by_cases hk : i < k
    · simp [Mem.insert, hk, Mem.below, hi, h.2, decide_eq_true_eq.mp h.1]
    · simp [Mem.insert, hk, Mem.below, ih h.2, decide_eq_true_eq.mp h.1]

/-- A write below `n` keeps an array of `n` bytes one. -/
theorem Mem.ok_write {n : Nat} {m : Mem} {i : Nat} (v : Byte) (hi : i < n) (h : Mem.ok n m = true) :
    Mem.ok n (m.write i v) = true := by
  simp only [Mem.ok, Bool.and_eq_true] at h ⊢
  refine ⟨Mem.wf_write i v h.1, ?_⟩
  unfold Mem.write
  split
  · exact Mem.below_erase i h.2
  · exact Mem.below_insert v hi (Mem.below_erase i h.2)

/-! ## The first bytes of an array -/

theorem Mem.wfFrom_take {lo : Nat} {m : Mem} (n : Nat) (w : Mem.wfFrom lo m = true) :
    Mem.wfFrom lo (m.take n) = true := by
  induction m generalizing lo with
  | nil => rfl
  | cons c rest ih =>
    obtain ⟨k, b⟩ := c
    simp only [Mem.wfFrom, Bool.and_eq_true, decide_eq_true_eq] at w
    by_cases h : k < n
    · simp only [Mem.take, h, if_true, Mem.wfFrom, Bool.and_eq_true, decide_eq_true_eq]
      exact ⟨w.1, ih w.2⟩
    · simpa [Mem.take, h] using Mem.wfFrom_mono (by omega) (ih w.2)

theorem Mem.below_take (m : Mem) (n : Nat) : Mem.below n (m.take n) = true := by
  induction m with
  | nil => rfl
  | cons c rest ih =>
    obtain ⟨k, b⟩ := c
    by_cases h : k < n <;> simp [Mem.take, h, Mem.below, ih]

/-- The first `n` bytes of a canonical array are a canonical array of `n` bytes. -/
theorem Mem.ok_take {m : Mem} (n : Nat) (w : m.wf = true) : Mem.ok n (m.take n) = true := by
  simp only [Mem.ok, Bool.and_eq_true]
  exact ⟨Mem.wfFrom_take n w, Mem.below_take m n⟩

theorem Mem.read_take {m : Mem} {n i : Nat} (h : i < n) : (m.take n).read i = m.read i := by
  induction m with
  | nil => rfl
  | cons c rest ih =>
    obtain ⟨k, b⟩ := c
    by_cases hk : k < n
    · simp [Mem.take, Mem.read, hk, ih]
    · have : k ≠ i := by omega
      simp [Mem.take, Mem.read, hk, this, ih]

/-- Equal memories are equal data: two canonical arrays that read alike are the same list. -/
theorem Mem.ext_wfFrom {lo : Nat} {m m' : Mem} (w : Mem.wfFrom lo m = true) (w' : Mem.wfFrom lo m' = true)
    (h : ∀ i, m.read i = m'.read i) : m = m' := by
  have zero : ∀ {lo : Nat} {m : Mem}, Mem.wfFrom lo m = true → ∀ i, i < lo → m.read i = 0 := by
    intro lo m
    induction m generalizing lo with
    | nil => intros; rfl
    | cons c rest ih =>
      obtain ⟨k, b⟩ := c
      intro w i hi
      simp only [Mem.wfFrom, Bool.and_eq_true, decide_eq_true_eq] at w
      have : k ≠ i := by omega
      simpa [Mem.read, this] using ih w.2 i (by omega)
  induction m generalizing lo m' with
  | nil =>
    cases m' with
    | nil => rfl
    | cons c rest =>
      obtain ⟨k, b⟩ := c
      simp only [Mem.wfFrom, Bool.and_eq_true, decide_eq_true_eq] at w'
      exact absurd (by simpa [Mem.read] using (h k).symm) w'.1.2
  | cons c rest ih =>
    obtain ⟨k, b⟩ := c
    have w0 := w
    simp only [Mem.wfFrom, Bool.and_eq_true, decide_eq_true_eq] at w
    cases m' with
    | nil => exact absurd (by simpa [Mem.read] using h k) w.1.2
    | cons c' rest' =>
      obtain ⟨k', b'⟩ := c'
      have w0' := w'
      simp only [Mem.wfFrom, Bool.and_eq_true, decide_eq_true_eq] at w'
      have hk : k = k' := by
        rcases Nat.lt_trichotomy k k' with hlt | heq | hlt
        · have h1 := h k
          have h2 := zero w'.2 k (by omega)
          have : k' ≠ k := by omega
          simp only [Mem.read, this, if_true, if_false, h2] at h1
          exact absurd h1 w.1.2
        · exact heq
        · have h1 := h k'
          have h2 := zero w.2 k' (by omega)
          have : k ≠ k' := by omega
          simp only [Mem.read, this, if_true, if_false, h2] at h1
          exact absurd h1.symm w'.1.2
      subst hk
      have hb : b = b' := by simpa [Mem.read] using h k
      subst hb
      congr 1
      refine ih w.2 w'.2 fun i => ?_
      by_cases hi : k = i
      · subst hi
        rw [zero w.2 k (by omega), zero w'.2 k (by omega)]
      · simpa [Mem.read, hi] using h i

end Sys2Proof.Machine
end

