-- ==== Sys2Proof/Laws/Operands.lean ====
section
/-! SUPPORT. The numeric parameters as numbers, and what the operand predicates say, as propositions. -/

/-! ## Parameters of R7 as numbers -/

namespace Sys2Proof

@[simp] theorem Config.hblankClocks_eq : Config.hblankClocks = 68 := rfl
@[simp] theorem Config.visibleClocks_eq : Config.visibleClocks = 160 := rfl
@[simp] theorem Config.clocksPerCycle_eq : Config.clocksPerCycle = 3 := rfl
@[simp] theorem Config.cyclesPerLine_eq : Config.cyclesPerLine = 76 := rfl
@[simp] theorem Config.pfLatchPhase_eq : Config.pfLatchPhase = 3 := rfl

end Sys2Proof

/-! ## Operand predicates -/

namespace Sys2Proof.Machine

@[simp] theorem within_iff (lo hi a : Nat) : within lo hi a = true ↔ lo ≤ a ∧ a ≤ hi := by simp [within]

theorem within_eq_false (lo hi a : Nat) : within lo hi a = false ↔ ¬ (lo ≤ a ∧ a ≤ hi) := by
  rw [← within_iff, Bool.not_eq_true]

theorem hotspot_iff (k : StdKind) (a : Nat) : k.hotspot a = true ↔ k.hot ≤ a ∧ a < k.hot + k.nbanks := by
  simp [StdKind.hotspot]

theorem hotspot_f8 (a : Nat) : StdKind.f8.hotspot a = true ↔ 0x1FF8 ≤ a ∧ a < 0x1FFA := hotspot_iff .f8 a

theorem hotspot_f6 (a : Nat) : StdKind.f6.hotspot a = true ↔ 0x1FF6 ≤ a ∧ a < 0x1FFA := hotspot_iff .f6 a

theorem hotspot_f4 (a : Nat) : StdKind.f4.hotspot a = true ↔ 0x1FF4 ≤ a ∧ a < 0x1FFC := hotspot_iff .f4 a

theorem cartAt_iff (tag t : Tag) (addr : Addr) : cartAt tag t addr = true ↔ tag = t ∧ region addr = .cart := by
  simp [cartAt]

theorem region_cart_iff (addr : Addr) : region addr = .cart ↔ addr.getLsbD 12 = true := by
  unfold region
  generalize addr.getLsbD 12 = b12
  generalize addr.getLsbD 7 = b7
  generalize addr.getLsbD 9 = b9
  revert b12 b7 b9
  decide

theorem region_tia_iff (addr : Addr) : region addr = .tia ↔ addr.getLsbD 12 = false ∧ addr.getLsbD 7 = false := by
  unfold region
  cases addr.getLsbD 12 <;> cases addr.getLsbD 7 <;> cases addr.getLsbD 9 <;> decide

theorem region_io_iff (addr : Addr) :
    region addr = .io ↔ addr.getLsbD 12 = false ∧ addr.getLsbD 9 = true ∧ addr.getLsbD 7 = true := by
  unfold region
  cases addr.getLsbD 12 <;> cases addr.getLsbD 7 <;> cases addr.getLsbD 9 <;> decide

theorem tiaReadAt_iff (addr : Addr) (k : Nat) : tiaReadAt addr k = true ↔ region addr = .tia ∧ a4 addr = k := by
  simp [tiaReadAt]

theorem tiaWriteAt_iff (tag : Tag) (addr : Addr) (k : Nat) :
    tiaWriteAt tag addr k = true ↔ region addr = .tia ∧ a6 addr = k ∧ ¬ (tag = .m3f ∧ a13 addr ≤ 0x3F) := by
  simp [tiaWriteAt, snooped, lowTia, and_assoc, ← Decidable.imp_iff_not_or]

theorem portAt_iff (addr : Addr) (k : Nat) :
    portAt addr k = true ↔ region addr = .io ∧ addr.getLsbD 2 = false ∧ a2 addr = k := by
  simp [portAt, timerSelect, and_assoc]

theorem timerReadAt_iff (addr : Addr) (b : Bool) :
    timerReadAt addr b = true ↔ region addr = .io ∧ addr.getLsbD 2 = true ∧ addr.getLsbD 0 = b := by
  simp [timerReadAt, timerSelect, and_assoc]

theorem timerWriteAt_iff (addr : Addr) (k : Nat) :
    timerWriteAt addr k = true ↔
      region addr = .io ∧ addr.getLsbD 2 = true ∧ addr.getLsbD 4 = true ∧ a2 addr = k := by
  simp [timerWriteAt, timerSelect, and_assoc]

theorem edgeAt_iff (addr : Addr) :
    edgeAt addr = true ↔ region addr = .io ∧ addr.getLsbD 2 = true ∧ addr.getLsbD 4 = false := by
  simp [edgeAt, timerSelect, and_assoc]

theorem a13_lt (addr : Addr) : a13 addr < 0x2000 := Nat.mod_lt _ (by decide)

theorem a12_lt (addr : Addr) : a12 addr < 0x1000 := Nat.mod_lt _ (by decide)

theorem a11_lt (addr : Addr) : a11 addr < 0x800 := Nat.mod_lt _ (by decide)

theorem a10_lt (addr : Addr) : a10 addr < 0x400 := Nat.mod_lt _ (by decide)

theorem a8_lt (addr : Addr) : a8 addr < 0x100 := Nat.mod_lt _ (by decide)

theorem a7_lt (addr : Addr) : a7 addr < 0x80 := Nat.mod_lt _ (by decide)

theorem a6_lt (addr : Addr) : a6 addr < 0x40 := Nat.mod_lt _ (by decide)

theorem a4_lt (addr : Addr) : a4 addr < 0x10 := Nat.mod_lt _ (by decide)

theorem a3_lt (addr : Addr) : a3 addr < 8 := Nat.mod_lt _ (by decide)

theorem a2_lt (addr : Addr) : a2 addr < 4 := Nat.mod_lt _ (by decide)

theorem emod_lt (a : Int) {n : Nat} (h : 0 < n) : emod a n < n := by
  have := Int.emod_lt_of_pos a (b := n) (by omega)
  have := Int.emod_nonneg a (b := n) (by omega)
  unfold emod
  omega

/-- Bit `k` of a byte made of eight bits. -/
theorem byteOfBits_getLsbD (b7 b6 b5 b4 b3 b2 b1 b0 : Bool) (k : Nat) (hk : k < 8) :
    (byteOfBits b7 b6 b5 b4 b3 b2 b1 b0).getLsbD k = [b0, b1, b2, b3, b4, b5, b6, b7][k] := by
  have h : ∀ k : Fin 8, (byteOfBits b7 b6 b5 b4 b3 b2 b1 b0).getLsbD k.val =
      [b0, b1, b2, b3, b4, b5, b6, b7][k.val]'k.isLt := by
    revert b7 b6 b5 b4 b3 b2 b1 b0
    decide
  exact h ⟨k, hk⟩

/-- Bit `k` of a reversed byte is bit `7 - k`. -/
theorem reverseBits_getLsbD (d : Byte) (k : Nat) (hk : k < 8) : (reverseBits d).getLsbD k = d.getLsbD (7 - k) := by
  unfold reverseBits
  rw [byteOfBits_getLsbD _ _ _ _ _ _ _ _ k hk]
  match k, hk with
  | 0, _ | 1, _ | 2, _ | 3, _ | 4, _ | 5, _ | 6, _ | 7, _ => rfl

end Sys2Proof.Machine
end

