-- ==== Sys2Proof/Laws/State.lean ====
section
/-! SUPPORT. One lemma per field per state update, true by `rfl`. -/

namespace Sys2Proof.Machine

@[simp] theorem State.setTia_cycles (t : Tia) (s : State) : (State.setTia t s).cycles = s.cycles := rfl
@[simp] theorem State.setTia_bus (t : Tia) (s : State) : (State.setTia t s).bus = s.bus := rfl
@[simp] theorem State.setTia_timer (t : Tia) (s : State) : (State.setTia t s).timer = s.timer := rfl
@[simp] theorem State.setTia_tia (t : Tia) (s : State) : (State.setTia t s).tia = t := rfl
@[simp] theorem State.setTia_apu (t : Tia) (s : State) : (State.setTia t s).apu = s.apu := rfl
@[simp] theorem State.setTia_io (t : Tia) (s : State) : (State.setTia t s).io = s.io := rfl
@[simp] theorem State.setTia_input (t : Tia) (s : State) : (State.setTia t s).input = s.input := rfl
@[simp] theorem State.setTia_fatal (t : Tia) (s : State) : (State.setTia t s).fatal = s.fatal := rfl
@[simp] theorem State.setTia_anomalies (t : Tia) (s : State) : (State.setTia t s).anomalies = s.anomalies := rfl
@[simp] theorem State.setTia_image (t : Tia) (s : State) : (State.setTia t s).image = s.image := rfl
@[simp] theorem State.setTia_tvFormat (t : Tia) (s : State) : (State.setTia t s).tvFormat = s.tvFormat := rfl
@[simp] theorem State.setTia_mode0 (t : Tia) (s : State) : (State.setTia t s).mode0 = s.mode0 := rfl
@[simp] theorem State.setTia_mode1 (t : Tia) (s : State) : (State.setTia t s).mode1 = s.mode1 := rfl
@[simp] theorem State.setTia_coreStart (t : Tia) (s : State) : (State.setTia t s).coreStart = s.coreStart := rfl
@[simp] theorem State.setTia_inbox (t : Tia) (s : State) : (State.setTia t s).inbox = s.inbox := rfl
@[simp] theorem State.setTia_reply (t : Tia) (s : State) : (State.setTia t s).reply = s.reply := rfl
@[simp] theorem State.setTia_draws (t : Tia) (s : State) : (State.setTia t s).draws = s.draws := rfl

@[simp] theorem State.setIo_cycles (io : Io) (s : State) : (State.setIo io s).cycles = s.cycles := rfl
@[simp] theorem State.setIo_bus (io : Io) (s : State) : (State.setIo io s).bus = s.bus := rfl
@[simp] theorem State.setIo_timer (io : Io) (s : State) : (State.setIo io s).timer = s.timer := rfl
@[simp] theorem State.setIo_tia (io : Io) (s : State) : (State.setIo io s).tia = s.tia := rfl
@[simp] theorem State.setIo_apu (io : Io) (s : State) : (State.setIo io s).apu = s.apu := rfl
@[simp] theorem State.setIo_io (io : Io) (s : State) : (State.setIo io s).io = io := rfl
@[simp] theorem State.setIo_input (io : Io) (s : State) : (State.setIo io s).input = s.input := rfl
@[simp] theorem State.setIo_fatal (io : Io) (s : State) : (State.setIo io s).fatal = s.fatal := rfl
@[simp] theorem State.setIo_anomalies (io : Io) (s : State) : (State.setIo io s).anomalies = s.anomalies := rfl
@[simp] theorem State.setIo_image (io : Io) (s : State) : (State.setIo io s).image = s.image := rfl
@[simp] theorem State.setIo_tvFormat (io : Io) (s : State) : (State.setIo io s).tvFormat = s.tvFormat := rfl
@[simp] theorem State.setIo_mode0 (io : Io) (s : State) : (State.setIo io s).mode0 = s.mode0 := rfl
@[simp] theorem State.setIo_mode1 (io : Io) (s : State) : (State.setIo io s).mode1 = s.mode1 := rfl
@[simp] theorem State.setIo_coreStart (io : Io) (s : State) : (State.setIo io s).coreStart = s.coreStart := rfl
@[simp] theorem State.setIo_inbox (io : Io) (s : State) : (State.setIo io s).inbox = s.inbox := rfl
@[simp] theorem State.setIo_reply (io : Io) (s : State) : (State.setIo io s).reply = s.reply := rfl
@[simp] theorem State.setIo_draws (io : Io) (s : State) : (State.setIo io s).draws = s.draws := rfl

@[simp] theorem State.setTimer_cycles (t : Timer) (s : State) : (State.setTimer t s).cycles = s.cycles := rfl
@[simp] theorem State.setTimer_bus (t : Timer) (s : State) : (State.setTimer t s).bus = s.bus := rfl
@[simp] theorem State.setTimer_timer (t : Timer) (s : State) : (State.setTimer t s).timer = t := rfl
@[simp] theorem State.setTimer_tia (t : Timer) (s : State) : (State.setTimer t s).tia = s.tia := rfl
@[simp] theorem State.setTimer_apu (t : Timer) (s : State) : (State.setTimer t s).apu = s.apu := rfl
@[simp] theorem State.setTimer_io (t : Timer) (s : State) : (State.setTimer t s).io = s.io := rfl
@[simp] theorem State.setTimer_input (t : Timer) (s : State) : (State.setTimer t s).input = s.input := rfl
@[simp] theorem State.setTimer_fatal (t : Timer) (s : State) : (State.setTimer t s).fatal = s.fatal := rfl
@[simp] theorem State.setTimer_anomalies (t : Timer) (s : State) : (State.setTimer t s).anomalies = s.anomalies := rfl
@[simp] theorem State.setTimer_image (t : Timer) (s : State) : (State.setTimer t s).image = s.image := rfl
@[simp] theorem State.setTimer_tvFormat (t : Timer) (s : State) : (State.setTimer t s).tvFormat = s.tvFormat := rfl
@[simp] theorem State.setTimer_mode0 (t : Timer) (s : State) : (State.setTimer t s).mode0 = s.mode0 := rfl
@[simp] theorem State.setTimer_mode1 (t : Timer) (s : State) : (State.setTimer t s).mode1 = s.mode1 := rfl
@[simp] theorem State.setTimer_coreStart (t : Timer) (s : State) : (State.setTimer t s).coreStart = s.coreStart := rfl
@[simp] theorem State.setTimer_inbox (t : Timer) (s : State) : (State.setTimer t s).inbox = s.inbox := rfl
@[simp] theorem State.setTimer_reply (t : Timer) (s : State) : (State.setTimer t s).reply = s.reply := rfl
@[simp] theorem State.setTimer_draws (t : Timer) (s : State) : (State.setTimer t s).draws = s.draws := rfl

@[simp] theorem State.setApu_cycles (a : Apu) (s : State) : (State.setApu a s).cycles = s.cycles := rfl
@[simp] theorem State.setApu_bus (a : Apu) (s : State) : (State.setApu a s).bus = s.bus := rfl
@[simp] theorem State.setApu_timer (a : Apu) (s : State) : (State.setApu a s).timer = s.timer := rfl
@[simp] theorem State.setApu_tia (a : Apu) (s : State) : (State.setApu a s).tia = s.tia := rfl
@[simp] theorem State.setApu_apu (a : Apu) (s : State) : (State.setApu a s).apu = a := rfl
@[simp] theorem State.setApu_io (a : Apu) (s : State) : (State.setApu a s).io = s.io := rfl
@[simp] theorem State.setApu_input (a : Apu) (s : State) : (State.setApu a s).input = s.input := rfl
@[simp] theorem State.setApu_fatal (a : Apu) (s : State) : (State.setApu a s).fatal = s.fatal := rfl
@[simp] theorem State.setApu_anomalies (a : Apu) (s : State) : (State.setApu a s).anomalies = s.anomalies := rfl
@[simp] theorem State.setApu_image (a : Apu) (s : State) : (State.setApu a s).image = s.image := rfl
@[simp] theorem State.setApu_tvFormat (a : Apu) (s : State) : (State.setApu a s).tvFormat = s.tvFormat := rfl
@[simp] theorem State.setApu_mode0 (a : Apu) (s : State) : (State.setApu a s).mode0 = s.mode0 := rfl
@[simp] theorem State.setApu_mode1 (a : Apu) (s : State) : (State.setApu a s).mode1 = s.mode1 := rfl
@[simp] theorem State.setApu_coreStart (a : Apu) (s : State) : (State.setApu a s).coreStart = s.coreStart := rfl
@[simp] theorem State.setApu_inbox (a : Apu) (s : State) : (State.setApu a s).inbox = s.inbox := rfl
@[simp] theorem State.setApu_reply (a : Apu) (s : State) : (State.setApu a s).reply = s.reply := rfl
@[simp] theorem State.setApu_draws (a : Apu) (s : State) : (State.setApu a s).draws = s.draws := rfl

@[simp] theorem State.setMapper_cycles (m : Mapper) (s : State) : (State.setMapper m s).cycles = s.cycles := rfl
@[simp] theorem State.setMapper_bus (m : Mapper) (s : State) : (State.setMapper m s).bus = { s.bus with mapper := m } := rfl
@[simp] theorem State.setMapper_timer (m : Mapper) (s : State) : (State.setMapper m s).timer = s.timer := rfl
@[simp] theorem State.setMapper_tia (m : Mapper) (s : State) : (State.setMapper m s).tia = s.tia := rfl
@[simp] theorem State.setMapper_apu (m : Mapper) (s : State) : (State.setMapper m s).apu = s.apu := rfl
@[simp] theorem State.setMapper_io (m : Mapper) (s : State) : (State.setMapper m s).io = s.io := rfl
@[simp] theorem State.setMapper_input (m : Mapper) (s : State) : (State.setMapper m s).input = s.input := rfl
@[simp] theorem State.setMapper_fatal (m : Mapper) (s : State) : (State.setMapper m s).fatal = s.fatal := rfl
@[simp] theorem State.setMapper_anomalies (m : Mapper) (s : State) : (State.setMapper m s).anomalies = s.anomalies := rfl
@[simp] theorem State.setMapper_image (m : Mapper) (s : State) : (State.setMapper m s).image = s.image := rfl
@[simp] theorem State.setMapper_tvFormat (m : Mapper) (s : State) : (State.setMapper m s).tvFormat = s.tvFormat := rfl
@[simp] theorem State.setMapper_mode0 (m : Mapper) (s : State) : (State.setMapper m s).mode0 = s.mode0 := rfl
@[simp] theorem State.setMapper_mode1 (m : Mapper) (s : State) : (State.setMapper m s).mode1 = s.mode1 := rfl
@[simp] theorem State.setMapper_coreStart (m : Mapper) (s : State) : (State.setMapper m s).coreStart = s.coreStart := rfl
@[simp] theorem State.setMapper_inbox (m : Mapper) (s : State) : (State.setMapper m s).inbox = s.inbox := rfl
@[simp] theorem State.setMapper_reply (m : Mapper) (s : State) : (State.setMapper m s).reply = s.reply := rfl
@[simp] theorem State.setMapper_draws (m : Mapper) (s : State) : (State.setMapper m s).draws = s.draws := rfl

@[simp] theorem State.setRam_cycles (k : Nat) (d : Byte) (s : State) : (State.setRam k d s).cycles = s.cycles := rfl
@[simp] theorem State.setRam_bus (k : Nat) (d : Byte) (s : State) : (State.setRam k d s).bus = { s.bus with ram := s.bus.ram.write k d } := rfl
@[simp] theorem State.setRam_timer (k : Nat) (d : Byte) (s : State) : (State.setRam k d s).timer = s.timer := rfl
@[simp] theorem State.setRam_tia (k : Nat) (d : Byte) (s : State) : (State.setRam k d s).tia = s.tia := rfl
@[simp] theorem State.setRam_apu (k : Nat) (d : Byte) (s : State) : (State.setRam k d s).apu = s.apu := rfl
@[simp] theorem State.setRam_io (k : Nat) (d : Byte) (s : State) : (State.setRam k d s).io = s.io := rfl
@[simp] theorem State.setRam_input (k : Nat) (d : Byte) (s : State) : (State.setRam k d s).input = s.input := rfl
@[simp] theorem State.setRam_fatal (k : Nat) (d : Byte) (s : State) : (State.setRam k d s).fatal = s.fatal := rfl
@[simp] theorem State.setRam_anomalies (k : Nat) (d : Byte) (s : State) : (State.setRam k d s).anomalies = s.anomalies := rfl
@[simp] theorem State.setRam_image (k : Nat) (d : Byte) (s : State) : (State.setRam k d s).image = s.image := rfl
@[simp] theorem State.setRam_tvFormat (k : Nat) (d : Byte) (s : State) : (State.setRam k d s).tvFormat = s.tvFormat := rfl
@[simp] theorem State.setRam_mode0 (k : Nat) (d : Byte) (s : State) : (State.setRam k d s).mode0 = s.mode0 := rfl
@[simp] theorem State.setRam_mode1 (k : Nat) (d : Byte) (s : State) : (State.setRam k d s).mode1 = s.mode1 := rfl
@[simp] theorem State.setRam_coreStart (k : Nat) (d : Byte) (s : State) : (State.setRam k d s).coreStart = s.coreStart := rfl
@[simp] theorem State.setRam_inbox (k : Nat) (d : Byte) (s : State) : (State.setRam k d s).inbox = s.inbox := rfl
@[simp] theorem State.setRam_reply (k : Nat) (d : Byte) (s : State) : (State.setRam k d s).reply = s.reply := rfl
@[simp] theorem State.setRam_draws (k : Nat) (d : Byte) (s : State) : (State.setRam k d s).draws = s.draws := rfl

@[simp] theorem State.answer_cycles (r : Reply) (s : State) : (State.answer r s).cycles = s.cycles := rfl
@[simp] theorem State.answer_bus (r : Reply) (s : State) : (State.answer r s).bus = s.bus := rfl
@[simp] theorem State.answer_timer (r : Reply) (s : State) : (State.answer r s).timer = s.timer := rfl
@[simp] theorem State.answer_tia (r : Reply) (s : State) : (State.answer r s).tia = s.tia := rfl
@[simp] theorem State.answer_apu (r : Reply) (s : State) : (State.answer r s).apu = s.apu := rfl
@[simp] theorem State.answer_io (r : Reply) (s : State) : (State.answer r s).io = s.io := rfl
@[simp] theorem State.answer_input (r : Reply) (s : State) : (State.answer r s).input = s.input := rfl
@[simp] theorem State.answer_fatal (r : Reply) (s : State) : (State.answer r s).fatal = s.fatal := rfl
@[simp] theorem State.answer_anomalies (r : Reply) (s : State) : (State.answer r s).anomalies = s.anomalies := rfl
@[simp] theorem State.answer_image (r : Reply) (s : State) : (State.answer r s).image = s.image := rfl
@[simp] theorem State.answer_tvFormat (r : Reply) (s : State) : (State.answer r s).tvFormat = s.tvFormat := rfl
@[simp] theorem State.answer_mode0 (r : Reply) (s : State) : (State.answer r s).mode0 = s.mode0 := rfl
@[simp] theorem State.answer_mode1 (r : Reply) (s : State) : (State.answer r s).mode1 = s.mode1 := rfl
@[simp] theorem State.answer_coreStart (r : Reply) (s : State) : (State.answer r s).coreStart = s.coreStart := rfl
@[simp] theorem State.answer_inbox (r : Reply) (s : State) : (State.answer r s).inbox = s.inbox := rfl
@[simp] theorem State.answer_reply (r : Reply) (s : State) : (State.answer r s).reply = r := rfl
@[simp] theorem State.answer_draws (r : Reply) (s : State) : (State.answer r s).draws = s.draws := rfl

@[simp] theorem State.log_cycles (k : AnomalyKind) (n : Nat) (addr : Addr) (s : State) : (State.log k n addr s).cycles = s.cycles := rfl
@[simp] theorem State.log_bus (k : AnomalyKind) (n : Nat) (addr : Addr) (s : State) : (State.log k n addr s).bus = s.bus := rfl
@[simp] theorem State.log_timer (k : AnomalyKind) (n : Nat) (addr : Addr) (s : State) : (State.log k n addr s).timer = s.timer := rfl
@[simp] theorem State.log_tia (k : AnomalyKind) (n : Nat) (addr : Addr) (s : State) : (State.log k n addr s).tia = s.tia := rfl
@[simp] theorem State.log_apu (k : AnomalyKind) (n : Nat) (addr : Addr) (s : State) : (State.log k n addr s).apu = s.apu := rfl
@[simp] theorem State.log_io (k : AnomalyKind) (n : Nat) (addr : Addr) (s : State) : (State.log k n addr s).io = s.io := rfl
@[simp] theorem State.log_input (k : AnomalyKind) (n : Nat) (addr : Addr) (s : State) : (State.log k n addr s).input = s.input := rfl
@[simp] theorem State.log_fatal (k : AnomalyKind) (n : Nat) (addr : Addr) (s : State) : (State.log k n addr s).fatal = s.fatal := rfl
@[simp] theorem State.log_anomalies (k : AnomalyKind) (n : Nat) (addr : Addr) (s : State) : (State.log k n addr s).anomalies = s.anomalies ++ [⟨k, n, a13 addr⟩] := rfl
@[simp] theorem State.log_image (k : AnomalyKind) (n : Nat) (addr : Addr) (s : State) : (State.log k n addr s).image = s.image := rfl
@[simp] theorem State.log_tvFormat (k : AnomalyKind) (n : Nat) (addr : Addr) (s : State) : (State.log k n addr s).tvFormat = s.tvFormat := rfl
@[simp] theorem State.log_mode0 (k : AnomalyKind) (n : Nat) (addr : Addr) (s : State) : (State.log k n addr s).mode0 = s.mode0 := rfl
@[simp] theorem State.log_mode1 (k : AnomalyKind) (n : Nat) (addr : Addr) (s : State) : (State.log k n addr s).mode1 = s.mode1 := rfl
@[simp] theorem State.log_coreStart (k : AnomalyKind) (n : Nat) (addr : Addr) (s : State) : (State.log k n addr s).coreStart = s.coreStart := rfl
@[simp] theorem State.log_inbox (k : AnomalyKind) (n : Nat) (addr : Addr) (s : State) : (State.log k n addr s).inbox = s.inbox := rfl
@[simp] theorem State.log_reply (k : AnomalyKind) (n : Nat) (addr : Addr) (s : State) : (State.log k n addr s).reply = s.reply := rfl
@[simp] theorem State.log_draws (k : AnomalyKind) (n : Nat) (addr : Addr) (s : State) : (State.log k n addr s).draws = s.draws := rfl

@[simp] theorem State.raiseFatal_cycles (k : FatalKind) (n : Nat) (s : State) : (State.raiseFatal k n s).cycles = s.cycles := rfl
@[simp] theorem State.raiseFatal_bus (k : FatalKind) (n : Nat) (s : State) : (State.raiseFatal k n s).bus = s.bus := rfl
@[simp] theorem State.raiseFatal_timer (k : FatalKind) (n : Nat) (s : State) : (State.raiseFatal k n s).timer = s.timer := rfl
@[simp] theorem State.raiseFatal_tia (k : FatalKind) (n : Nat) (s : State) : (State.raiseFatal k n s).tia = s.tia := rfl
@[simp] theorem State.raiseFatal_apu (k : FatalKind) (n : Nat) (s : State) : (State.raiseFatal k n s).apu = s.apu := rfl
@[simp] theorem State.raiseFatal_io (k : FatalKind) (n : Nat) (s : State) : (State.raiseFatal k n s).io = s.io := rfl
@[simp] theorem State.raiseFatal_input (k : FatalKind) (n : Nat) (s : State) : (State.raiseFatal k n s).input = s.input := rfl
@[simp] theorem State.raiseFatal_fatal (k : FatalKind) (n : Nat) (s : State) : (State.raiseFatal k n s).fatal = some ⟨k, n⟩ := rfl
@[simp] theorem State.raiseFatal_anomalies (k : FatalKind) (n : Nat) (s : State) : (State.raiseFatal k n s).anomalies = s.anomalies := rfl
@[simp] theorem State.raiseFatal_image (k : FatalKind) (n : Nat) (s : State) : (State.raiseFatal k n s).image = s.image := rfl
@[simp] theorem State.raiseFatal_tvFormat (k : FatalKind) (n : Nat) (s : State) : (State.raiseFatal k n s).tvFormat = s.tvFormat := rfl
@[simp] theorem State.raiseFatal_mode0 (k : FatalKind) (n : Nat) (s : State) : (State.raiseFatal k n s).mode0 = s.mode0 := rfl
@[simp] theorem State.raiseFatal_mode1 (k : FatalKind) (n : Nat) (s : State) : (State.raiseFatal k n s).mode1 = s.mode1 := rfl
@[simp] theorem State.raiseFatal_coreStart (k : FatalKind) (n : Nat) (s : State) : (State.raiseFatal k n s).coreStart = s.coreStart := rfl
@[simp] theorem State.raiseFatal_inbox (k : FatalKind) (n : Nat) (s : State) : (State.raiseFatal k n s).inbox = s.inbox := rfl
@[simp] theorem State.raiseFatal_reply (k : FatalKind) (n : Nat) (s : State) : (State.raiseFatal k n s).reply = s.reply := rfl
@[simp] theorem State.raiseFatal_draws (k : FatalKind) (n : Nat) (s : State) : (State.raiseFatal k n s).draws = s.draws := rfl

@[simp] theorem State.drew_cycles (s : State) : (State.drew s).cycles = s.cycles := rfl
@[simp] theorem State.drew_bus (s : State) : (State.drew s).bus = s.bus := rfl
@[simp] theorem State.drew_timer (s : State) : (State.drew s).timer = s.timer := rfl
@[simp] theorem State.drew_tia (s : State) : (State.drew s).tia = s.tia := rfl
@[simp] theorem State.drew_apu (s : State) : (State.drew s).apu = s.apu := rfl
@[simp] theorem State.drew_io (s : State) : (State.drew s).io = s.io := rfl
@[simp] theorem State.drew_input (s : State) : (State.drew s).input = s.input := rfl
@[simp] theorem State.drew_fatal (s : State) : (State.drew s).fatal = s.fatal := rfl
@[simp] theorem State.drew_anomalies (s : State) : (State.drew s).anomalies = s.anomalies := rfl
@[simp] theorem State.drew_image (s : State) : (State.drew s).image = s.image := rfl
@[simp] theorem State.drew_tvFormat (s : State) : (State.drew s).tvFormat = s.tvFormat := rfl
@[simp] theorem State.drew_mode0 (s : State) : (State.drew s).mode0 = s.mode0 := rfl
@[simp] theorem State.drew_mode1 (s : State) : (State.drew s).mode1 = s.mode1 := rfl
@[simp] theorem State.drew_coreStart (s : State) : (State.drew s).coreStart = s.coreStart := rfl
@[simp] theorem State.drew_inbox (s : State) : (State.drew s).inbox = s.inbox := rfl
@[simp] theorem State.drew_reply (s : State) : (State.drew s).reply = s.reply := rfl
@[simp] theorem State.drew_draws (s : State) : (State.drew s).draws = s.draws + 1 := rfl

@[simp] theorem State.withRequest_cycles (r : Request) (s : State) : (State.withRequest r s).cycles = s.cycles := rfl
@[simp] theorem State.withRequest_bus (r : Request) (s : State) : (State.withRequest r s).bus = s.bus := rfl
@[simp] theorem State.withRequest_timer (r : Request) (s : State) : (State.withRequest r s).timer = s.timer := rfl
@[simp] theorem State.withRequest_tia (r : Request) (s : State) : (State.withRequest r s).tia = s.tia := rfl
@[simp] theorem State.withRequest_apu (r : Request) (s : State) : (State.withRequest r s).apu = s.apu := rfl
@[simp] theorem State.withRequest_io (r : Request) (s : State) : (State.withRequest r s).io = s.io := rfl
@[simp] theorem State.withRequest_input (r : Request) (s : State) : (State.withRequest r s).input = s.input := rfl
@[simp] theorem State.withRequest_fatal (r : Request) (s : State) : (State.withRequest r s).fatal = s.fatal := rfl
@[simp] theorem State.withRequest_anomalies (r : Request) (s : State) : (State.withRequest r s).anomalies = s.anomalies := rfl
@[simp] theorem State.withRequest_image (r : Request) (s : State) : (State.withRequest r s).image = s.image := rfl
@[simp] theorem State.withRequest_tvFormat (r : Request) (s : State) : (State.withRequest r s).tvFormat = s.tvFormat := rfl
@[simp] theorem State.withRequest_mode0 (r : Request) (s : State) : (State.withRequest r s).mode0 = s.mode0 := rfl
@[simp] theorem State.withRequest_mode1 (r : Request) (s : State) : (State.withRequest r s).mode1 = s.mode1 := rfl
@[simp] theorem State.withRequest_coreStart (r : Request) (s : State) : (State.withRequest r s).coreStart = s.coreStart := rfl
@[simp] theorem State.withRequest_inbox (r : Request) (s : State) : (State.withRequest r s).inbox = r :: s.inbox := rfl
@[simp] theorem State.withRequest_reply (r : Request) (s : State) : (State.withRequest r s).reply = s.reply := rfl
@[simp] theorem State.withRequest_draws (r : Request) (s : State) : (State.withRequest r s).draws = s.draws := rfl

@[simp] theorem closeRead_cycles (addr : Addr) (r : Byte × State) : (closeRead addr r).cycles = r.2.cycles := rfl
@[simp] theorem closeRead_bus (addr : Addr) (r : Byte × State) : (closeRead addr r).bus = { r.2.bus with lastReadAddr := addr, lastAccessAddr := addr } := rfl
@[simp] theorem closeRead_timer (addr : Addr) (r : Byte × State) : (closeRead addr r).timer = r.2.timer := rfl
@[simp] theorem closeRead_tia (addr : Addr) (r : Byte × State) : (closeRead addr r).tia = r.2.tia := rfl
@[simp] theorem closeRead_apu (addr : Addr) (r : Byte × State) : (closeRead addr r).apu = r.2.apu := rfl
@[simp] theorem closeRead_io (addr : Addr) (r : Byte × State) : (closeRead addr r).io = r.2.io := rfl
@[simp] theorem closeRead_input (addr : Addr) (r : Byte × State) : (closeRead addr r).input = r.2.input := rfl
@[simp] theorem closeRead_fatal (addr : Addr) (r : Byte × State) : (closeRead addr r).fatal = r.2.fatal := rfl
@[simp] theorem closeRead_anomalies (addr : Addr) (r : Byte × State) : (closeRead addr r).anomalies = r.2.anomalies := rfl
@[simp] theorem closeRead_image (addr : Addr) (r : Byte × State) : (closeRead addr r).image = r.2.image := rfl
@[simp] theorem closeRead_tvFormat (addr : Addr) (r : Byte × State) : (closeRead addr r).tvFormat = r.2.tvFormat := rfl
@[simp] theorem closeRead_mode0 (addr : Addr) (r : Byte × State) : (closeRead addr r).mode0 = r.2.mode0 := rfl
@[simp] theorem closeRead_mode1 (addr : Addr) (r : Byte × State) : (closeRead addr r).mode1 = r.2.mode1 := rfl
@[simp] theorem closeRead_coreStart (addr : Addr) (r : Byte × State) : (closeRead addr r).coreStart = r.2.coreStart := rfl
@[simp] theorem closeRead_inbox (addr : Addr) (r : Byte × State) : (closeRead addr r).inbox = r.2.inbox := rfl
@[simp] theorem closeRead_reply (addr : Addr) (r : Byte × State) : (closeRead addr r).reply = .byte r.1 := rfl
@[simp] theorem closeRead_draws (addr : Addr) (r : Byte × State) : (closeRead addr r).draws = r.2.draws := rfl

@[simp] theorem closeWrite_cycles (addr : Addr) (s : State) : (closeWrite addr s).cycles = s.cycles := rfl
@[simp] theorem closeWrite_bus (addr : Addr) (s : State) : (closeWrite addr s).bus = { s.bus with lastWriteAddr := addr, lastAccessAddr := addr } := rfl
@[simp] theorem closeWrite_timer (addr : Addr) (s : State) : (closeWrite addr s).timer = s.timer := rfl
@[simp] theorem closeWrite_tia (addr : Addr) (s : State) : (closeWrite addr s).tia = s.tia := rfl
@[simp] theorem closeWrite_apu (addr : Addr) (s : State) : (closeWrite addr s).apu = s.apu := rfl
@[simp] theorem closeWrite_io (addr : Addr) (s : State) : (closeWrite addr s).io = s.io := rfl
@[simp] theorem closeWrite_input (addr : Addr) (s : State) : (closeWrite addr s).input = s.input := rfl
@[simp] theorem closeWrite_fatal (addr : Addr) (s : State) : (closeWrite addr s).fatal = s.fatal := rfl
@[simp] theorem closeWrite_anomalies (addr : Addr) (s : State) : (closeWrite addr s).anomalies = s.anomalies := rfl
@[simp] theorem closeWrite_image (addr : Addr) (s : State) : (closeWrite addr s).image = s.image := rfl
@[simp] theorem closeWrite_tvFormat (addr : Addr) (s : State) : (closeWrite addr s).tvFormat = s.tvFormat := rfl
@[simp] theorem closeWrite_mode0 (addr : Addr) (s : State) : (closeWrite addr s).mode0 = s.mode0 := rfl
@[simp] theorem closeWrite_mode1 (addr : Addr) (s : State) : (closeWrite addr s).mode1 = s.mode1 := rfl
@[simp] theorem closeWrite_coreStart (addr : Addr) (s : State) : (closeWrite addr s).coreStart = s.coreStart := rfl
@[simp] theorem closeWrite_inbox (addr : Addr) (s : State) : (closeWrite addr s).inbox = s.inbox := rfl
@[simp] theorem closeWrite_reply (addr : Addr) (s : State) : (closeWrite addr s).reply = .none := rfl
@[simp] theorem closeWrite_draws (addr : Addr) (s : State) : (closeWrite addr s).draws = s.draws := rfl

end Sys2Proof.Machine
end

