-- ==== Sys2Proof/Laws/Ops.lean ====
section
/-! SUPPORT. One lemma per shared operation: everything it can do. -/

namespace Sys2Proof.Machine

/-! ## The two guards -/

theorem State.ended_iff (s : State) : s.ended = false ↔ s.fatal = none := by
  cases h : s.fatal <;> simp [State.ended, h]

theorem State.ended_of_some {s : State} {e : FatalError} (h : s.fatal = some e) : s.ended = true := by
  simp [State.ended, h]

theorem whileLive_live {f : State → State} {s : State} (h : s.fatal = none) :
    whileLive f s = .next ((f s).answer .none) := by
  simp [whileLive, (State.ended_iff s).2 h]

theorem whileLive_ended {f : State → State} {s : State} (h : s.ended = true) :
    whileLive f s = .fault .stuckAfterFatal := by
  simp [whileLive, h]

/-- Everything `whileLive` can do when it answers a next state. -/
theorem whileLive_next {f : State → State} {s t : State} :
    whileLive f s = .next t ↔ s.fatal = none ∧ t = (f s).answer .none := by
  rw [← State.ended_iff]
  cases h : s.ended <;> simp [whileLive, h, eq_comm]

/-! ## Bus transactions -/

theorem readCycle_live {addr : Addr} {serve : State → Byte × State} {s : State} (h : s.fatal = none) :
    readCycle addr serve s = .next (closeRead addr (serve (opened addr .rd s))) := by
  simp [readCycle, (State.ended_iff s).2 h]

theorem readCycle_next {addr : Addr} {serve : State → Byte × State} {s t : State} :
    readCycle addr serve s = .next t ↔ s.fatal = none ∧ t = closeRead addr (serve (opened addr .rd s)) := by
  rw [← State.ended_iff]
  cases h : s.ended <;> simp [readCycle, h, eq_comm]

theorem writeCycle_live {addr : Addr} {d : Byte} {serve : State → State} {s : State} (h : s.fatal = none) :
    writeCycle addr d serve s = .next (closeWrite addr (serve (opened addr (.wr d) s))) := by
  simp [writeCycle, (State.ended_iff s).2 h]

theorem writeCycle_next {addr : Addr} {d : Byte} {serve : State → State} {s t : State} :
    writeCycle addr d serve s = .next t ↔
      s.fatal = none ∧ t = closeWrite addr (serve (opened addr (.wr d) s)) := by
  rw [← State.ended_iff]
  cases h : s.ended <;> simp [writeCycle, h, eq_comm]

theorem cartRead_live {α : Type} {pick : Mapper → Option α} {addr : Addr} {serve : α → State → Byte × State}
    {s : State} {m : α} (h : s.fatal = none) (hm : pick (opened addr .rd s).bus.mapper = some m) :
    cartRead pick addr serve s = .next (closeRead addr (serve m (opened addr .rd s))) := by
  simp [cartRead, (State.ended_iff s).2 h, hm]

theorem cartRead_next {α : Type} {pick : Mapper → Option α} {addr : Addr} {serve : α → State → Byte × State}
    {s t : State} :
    cartRead pick addr serve s = .next t ↔
      s.fatal = none ∧ ∃ m, pick (opened addr .rd s).bus.mapper = some m ∧
        t = closeRead addr (serve m (opened addr .rd s)) := by
  rw [← State.ended_iff]
  cases h : s.ended <;> simp [cartRead, h]
  cases hm : pick (opened addr .rd s).bus.mapper <;> simp [eq_comm]

theorem cartWrite_live {α : Type} {pick : Mapper → Option α} {addr : Addr} {d : Byte} {serve : α → State → State}
    {s : State} {m : α} (h : s.fatal = none) (hm : pick (opened addr (.wr d) s).bus.mapper = some m) :
    cartWrite pick addr d serve s = .next (closeWrite addr (serve m (opened addr (.wr d) s))) := by
  simp [cartWrite, (State.ended_iff s).2 h, hm]

theorem cartWrite_next {α : Type} {pick : Mapper → Option α} {addr : Addr} {d : Byte} {serve : α → State → State}
    {s t : State} :
    cartWrite pick addr d serve s = .next t ↔
      s.fatal = none ∧ ∃ m, pick (opened addr (.wr d) s).bus.mapper = some m ∧
        t = closeWrite addr (serve m (opened addr (.wr d) s)) := by
  rw [← State.ended_iff]
  cases h : s.ended <;> simp [cartWrite, h]
  cases hm : pick (opened addr (.wr d) s).bus.mapper <;> simp [eq_comm]

@[simp] theorem cartAccess_rd {α : Type} (pick : Mapper → Option α) (addr : Addr) (f : α → State → Byte × State)
    (g : α → Byte → State → State) (s : State) : cartAccess pick addr .rd f g s = cartRead pick addr f s := rfl

@[simp] theorem cartAccess_wr {α : Type} (pick : Mapper → Option α) (addr : Addr) (d : Byte)
    (f : α → State → Byte × State) (g : α → Byte → State → State) (s : State) :
    cartAccess pick addr (.wr d) f g s = cartWrite pick addr d (fun m => g m d) s := rfl

/-! ## Detection and the snoop hook change the mapper and the log only -/

/-- Detection either leaves the state or installs a fresh variant in place of `Unknown`. -/
theorem resolve_cases (addr : Addr) (w : Bool) (s : State) :
    resolve addr w s = s ∨
      (s.bus.mapper.tag = .unknown ∧ 4096 < s.image.size ∧
        ∃ v, detectRule s.image.size (a13 addr) w (a13 s.bus.lastWriteAddr) = some v ∧
          resolve addr w s = s.setMapper (fresh v)) := by
  unfold resolve
  split
  · exact .inl rfl
  · rename_i h
    simp only [not_or, Decidable.not_not] at h
    cases hd : detectRule s.image.size (a13 addr) w (a13 s.bus.lastWriteAddr) with
    | none => exact .inl rfl
    | some v => exact .inr ⟨h.1, by omega, v, rfl, rfl⟩

/-- Detection is a no-op once a variant is active. -/
theorem resolve_of_known {addr : Addr} {w : Bool} {s : State} (h : s.bus.mapper.tag ≠ .unknown) :
    resolve addr w s = s := by
  simp [resolve, h]

theorem resolve_of_small {addr : Addr} {w : Bool} {s : State} (h : s.image.size ≤ 4096) : resolve addr w s = s := by
  simp [resolve, h]

/-- With a bank there is the remainder, below the number of banks (R177). -/
theorem bankOf3F_eq {d : Byte} {s : State} (h : 0 < banks3F s) : bankOf3F d s = d.toNat % banks3F s :=
  if_neg (Nat.pos_iff_ne_zero.1 h)

theorem bankOf3F_lt {d : Byte} {s : State} (h : 0 < banks3F s) : bankOf3F d s < banks3F s := by
  rw [bankOf3F_eq h]
  exact Nat.mod_lt _ h

/-- The hook of a write either leaves the state, sets the `3F` bank, or logs. -/
theorem snoopWrite_cases (addr : Addr) (d : Byte) (s : State) :
    snoopWrite addr d s = s ∨
      (∃ b, s.bus.mapper = .m3f b ∧ snoopWrite addr d s = s.setMapper (.m3f (bankOf3F d s))) ∨
      (∃ b, s.bus.mapper = .m3f b ∧ snoopWrite addr d s = s.log .heuristicAmbiguity (a13 addr) addr) := by
  unfold snoopWrite
  cases hm : s.bus.mapper <;> try exact .inl rfl
  rename_i b
  dsimp only
  split
  · split
    · exact .inr (.inl ⟨b, rfl, rfl⟩)
    · exact .inr (.inr ⟨b, rfl, rfl⟩)
  · exact .inl rfl

theorem snoopWrite_of_not3F {addr : Addr} {d : Byte} {s : State} (h : s.bus.mapper.tag ≠ .m3f) :
    snoopWrite addr d s = s := by
  unfold snoopWrite
  cases hm : s.bus.mapper <;> try rfl
  exact absurd (by simp [hm, Mapper.tag]) h

/-- What comes before the dispatch changes nothing but the mapper and the log. -/
structure OpenedFrame (s t : State) : Prop where
  cycles : t.cycles = s.cycles
  bus : t.bus = { s.bus with mapper := t.bus.mapper }
  timer : t.timer = s.timer
  tia : t.tia = s.tia
  apu : t.apu = s.apu
  io : t.io = s.io
  input : t.input = s.input
  fatal : t.fatal = s.fatal
  image : t.image = s.image
  tvFormat : t.tvFormat = s.tvFormat
  mode0 : t.mode0 = s.mode0
  mode1 : t.mode1 = s.mode1
  coreStart : t.coreStart = s.coreStart
  inbox : t.inbox = s.inbox
  reply : t.reply = s.reply
  draws : t.draws = s.draws

theorem resolve_frame (addr : Addr) (w : Bool) (s : State) : OpenedFrame s (resolve addr w s) := by
  rcases resolve_cases addr w s with h | ⟨_, _, v, _, h⟩ <;> rw [h] <;> constructor <;> rfl

theorem snoopWrite_frame (addr : Addr) (d : Byte) (s : State) : OpenedFrame s (snoopWrite addr d s) := by
  rcases snoopWrite_cases addr d s with h | ⟨_, _, h⟩ | ⟨_, _, h⟩ <;> rw [h] <;> constructor <;> rfl

theorem OpenedFrame.trans {s t u : State} (h : OpenedFrame s t) (k : OpenedFrame t u) : OpenedFrame s u where
  cycles := k.cycles.trans h.cycles
  bus := by rw [k.bus, h.bus]
  timer := k.timer.trans h.timer
  tia := k.tia.trans h.tia
  apu := k.apu.trans h.apu
  io := k.io.trans h.io
  input := k.input.trans h.input
  fatal := k.fatal.trans h.fatal
  image := k.image.trans h.image
  tvFormat := k.tvFormat.trans h.tvFormat
  mode0 := k.mode0.trans h.mode0
  mode1 := k.mode1.trans h.mode1
  coreStart := k.coreStart.trans h.coreStart
  inbox := k.inbox.trans h.inbox
  reply := k.reply.trans h.reply
  draws := k.draws.trans h.draws

/-- The frame of what comes before every dispatch. -/
theorem opened_frame (addr : Addr) (acc : Access) (s : State) : OpenedFrame s (opened addr acc s) := by
  cases acc with
  | rd => exact resolve_frame addr false s
  | wr d => exact (resolve_frame addr true s).trans (snoopWrite_frame addr d _)

/-- With a variant other than `Unknown` and `3F`, nothing comes before the dispatch. -/
theorem opened_of_known {addr : Addr} {acc : Access} {s : State} (h : s.bus.mapper.tag ≠ .unknown)
    (h3 : s.bus.mapper.tag ≠ .m3f) : opened addr acc s = s := by
  cases acc <;> simp [opened, snoop, resolve_of_known h, snoopWrite_of_not3F h3]

/-- A read with a variant other than `Unknown`: nothing comes before the dispatch. -/
theorem opened_rd_of_known {addr : Addr} {s : State} (h : s.bus.mapper.tag ≠ .unknown) : opened addr .rd s = s := by
  simp [opened, snoop, Access.isWrite, resolve_of_known h]

theorem fresh_tag (v : Tag) : (fresh v).tag = v := by cases v <;> rfl

/-- The variant that serves an access is the one the request is decoded under. -/
theorem opened_tag (addr : Addr) (acc : Access) (s : State) :
    (opened addr acc s).bus.mapper.tag = servingTag (busRequest addr acc) s := by
  cases acc with
  | rd => rfl
  | wr d =>
    show (snoopWrite addr d (resolve addr true s)).bus.mapper.tag = (resolve addr true s).bus.mapper.tag
    rcases snoopWrite_cases addr d (resolve addr true s) with h | ⟨b, hb, h⟩ | ⟨b, hb, h⟩ <;> rw [h]
    · simp [hb, Mapper.tag]
    · simp

/-! ## The image -/

theorem romByte_inside {i : Nat} {s : State} (h : i < s.image.size) : romByte i s = (s.image.bytes.read i, s) := by
  simp [romByte, h]

/-- Reading the image changes nothing but the count of draws. -/
theorem romByte_state (i : Nat) (s : State) : (romByte i s).2 = s ∨ (romByte i s).2 = s.drew := by
  unfold romByte
  split
  · exact .inl rfl
  · exact .inr rfl

end Sys2Proof.Machine
end

