-- ==== Sys2Proof/Laws/Tick.lean ====
section
/-! SUPPORT. Everything a colour clock can do, as one record: `tick_eq`. The parts come first. -/

namespace Sys2Proof.Machine

/-- The latch writes `pfActive` only. -/
theorem latchPlayfield_eq (t : Tia) :
    latchPlayfield t = { t with pfActive := if emod t.x 4 = 3 then t.pfToLoad else t.pfActive } := by
  unfold latchPlayfield
  rw [Config.pfLatchPhase_eq]
  split <;> rfl

/-- The lock writes a missile's position only. -/
theorem lockedMissile_eq (m : Missile) (p : Player) :
    lockedMissile m p = { m with pos := if m.resmp then emod (p.pos + 4 * copyScale p.nusiz) 160 else m.pos } := by
  unfold lockedMissile
  rw [Config.visibleClocks_eq]
  split <;> rfl

/-- An object's position after a wrap with or without motion pending. -/
def wrappedPos (t : Tia) (pos : Nat) (hm : BitVec 4) : Nat :=
  if t.hmovePending then movedPos pos hm (motionExtra t) else pos

/-- What a wrap does. -/
theorem wrapLine_eq (t : Tia) :
    wrapLine t = { t with
      x := -68
      y := min (t.y + 1) Config.yMax
      waitHBlank := false
      p0 := { t.p0 with pos := wrappedPos t t.p0.pos t.p0.hm }
      p1 := { t.p1 with pos := wrappedPos t t.p1.pos t.p1.hm }
      m0 := { t.m0 with pos := wrappedPos t t.m0.pos t.m0.hm }
      m1 := { t.m1 with pos := wrappedPos t t.m1.pos t.m1.hm }
      bl := { t.bl with pos := wrappedPos t t.bl.pos t.bl.hm }
      comb := t.hmovePending && t.hmoveLate
      hmovePending := false
      hmoveLate := false } := by
  unfold wrapLine applyMotion wrappedPos
  cases h : t.hmovePending <;> simp [moveObjects, motionExtra]

/-- Does this clock end the line? -/
def Tia.lastClock (t : Tia) : Bool := decide (t.x = 159)

/-- An object's position after the advance. -/
def advancedPos (t : Tia) (pos : Nat) (hm : BitVec 4) : Nat :=
  if t.lastClock && t.hmovePending then movedPos pos hm (motionExtra t) else pos

/-- What the advance does, wrap or not. -/
theorem advance_eq (t : Tia) :
    advance t = { t with
      x := if t.lastClock then -68 else t.x + 1
      y := if t.lastClock then min (t.y + 1) Config.yMax else t.y
      waitHBlank := !t.lastClock && t.waitHBlank
      p0 := { t.p0 with pos := advancedPos t t.p0.pos t.p0.hm }
      p1 := { t.p1 with pos := advancedPos t t.p1.pos t.p1.hm }
      m0 := { t.m0 with pos := advancedPos t t.m0.pos t.m0.hm }
      m1 := { t.m1 with pos := advancedPos t t.m1.pos t.m1.hm }
      bl := { t.bl with pos := advancedPos t t.bl.pos t.bl.hm }
      comb := if t.lastClock then t.hmovePending && t.hmoveLate else t.comb
      hmovePending := !t.lastClock && t.hmovePending
      hmoveLate := !t.lastClock && t.hmoveLate } := by
  unfold advance advancedPos
  rw [Config.visibleClocks_eq, show ((160 : Nat) : Int) = 160 from rfl]
  by_cases h : t.x = 159
  · have h1 : t.x + 1 = 160 := by omega
    have h2 : t.lastClock = true := by simp [Tia.lastClock, h]
    rw [if_pos h1]
    simp only [if_true, wrapLine_eq, wrappedPos, h2, Bool.true_and, Bool.not_true, Bool.false_and]
  · have h1 : ¬ t.x + 1 = 160 := by omega
    have h2 : t.lastClock = false := by simp [Tia.lastClock, h]
    rw [if_neg h1]
    simp only [if_false, h2, Bool.false_and, Bool.not_false, Bool.true_and, Bool.false_eq_true]

/-- The position a locked missile has before the advance. -/
def lockedPos (m : Missile) (p : Player) : Nat :=
  if m.resmp then emod (p.pos + 4 * copyScale p.nusiz) 160 else m.pos

/-- Everything a colour clock can do: the fields it writes, each with its value. -/
theorem tick_eq (fmt : TvFormat) (t : Tia) :
    t.tick fmt = { t with
      x := if t.lastClock then -68 else t.x + 1
      y := if t.lastClock then min (t.y + 1) Config.yMax else t.y
      waitHBlank := !t.lastClock && t.waitHBlank
      fb := if 0 ≤ t.x then (visibleClock fmt (lockMissiles t)).fb else t.fb
      cx := if 0 ≤ t.x then (visibleClock fmt (lockMissiles t)).cx else t.cx
      pfActive := if emod t.x 4 = 3 then t.pfToLoad else t.pfActive
      p0 := { t.p0 with pos := advancedPos t t.p0.pos t.p0.hm }
      p1 := { t.p1 with pos := advancedPos t t.p1.pos t.p1.hm }
      m0 := { t.m0 with pos := advancedPos t (lockedPos t.m0 t.p0) t.m0.hm }
      m1 := { t.m1 with pos := advancedPos t (lockedPos t.m1 t.p1) t.m1.hm }
      bl := { t.bl with pos := advancedPos t t.bl.pos t.bl.hm }
      comb := if t.lastClock then t.hmovePending && t.hmoveLate else t.comb
      hmovePending := !t.lastClock && t.hmovePending
      hmoveLate := !t.lastClock && t.hmoveLate } := by
  unfold Tia.tick
  by_cases h : 0 ≤ t.x
  · simp only [h, if_true, latchPlayfield_eq, advance_eq]
    simp only [lockMissiles, lockedMissile_eq]
    rfl
  · simp only [h, if_false, latchPlayfield_eq, advance_eq]
    simp only [lockMissiles, lockedMissile_eq]
    rfl

end Sys2Proof.Machine
end

