-- ==== Sys2Proof/Laws/Scheduler.lean ====
section
/-! SUPPORT. Everything a processor cycle and a batch of cycles can do. -/

namespace Sys2Proof.Machine

/-- The colour clocks of one processor cycle. -/
theorem tiaTicks_cycle (s : State) : tiaTicks Config.clocksPerCycle s = tiaTick (tiaTick (tiaTick s)) := rfl

/-- Everything a cycle can do: the counter, one timer tick, one mapper tick, three colour clocks, one mixer tick. -/
theorem cycleOnce_eq (s : State) :
    cycleOnce s = { s with
      cycles := s.cycles + 1
      timer := s.timer.tick
      bus := { s.bus with mapper := s.bus.tickedMapper }
      tia := ((s.tia.tick s.tvFormat).tick s.tvFormat).tick s.tvFormat
      apu := s.apu.tick s.tvFormat (s.cycles + 1) } := by
  rw [cycleOnce, tiaTicks_cycle]
  unfold apuTick tiaTick mapperTick timerTick countCycle State.setApu State.setTia State.setMapper State.setTimer
  dsimp only

@[simp] theorem cycleOnce_cycles (s : State) : (cycleOnce s).cycles = s.cycles + 1 := by rw [cycleOnce_eq]
@[simp] theorem cycleOnce_tia (s : State) :
    (cycleOnce s).tia = ((s.tia.tick s.tvFormat).tick s.tvFormat).tick s.tvFormat := by rw [cycleOnce_eq]
@[simp] theorem cycleOnce_io (s : State) : (cycleOnce s).io = s.io := by rw [cycleOnce_eq]
@[simp] theorem cycleOnce_input (s : State) : (cycleOnce s).input = s.input := by rw [cycleOnce_eq]
@[simp] theorem cycleOnce_fatal (s : State) : (cycleOnce s).fatal = s.fatal := by rw [cycleOnce_eq]
@[simp] theorem cycleOnce_image (s : State) : (cycleOnce s).image = s.image := by rw [cycleOnce_eq]
@[simp] theorem cycleOnce_tvFormat (s : State) : (cycleOnce s).tvFormat = s.tvFormat := by rw [cycleOnce_eq]
@[simp] theorem cycleOnce_mode0 (s : State) : (cycleOnce s).mode0 = s.mode0 := by rw [cycleOnce_eq]
@[simp] theorem cycleOnce_mode1 (s : State) : (cycleOnce s).mode1 = s.mode1 := by rw [cycleOnce_eq]
@[simp] theorem cycleOnce_inbox (s : State) : (cycleOnce s).inbox = s.inbox := by rw [cycleOnce_eq]
@[simp] theorem cycleOnce_reply (s : State) : (cycleOnce s).reply = s.reply := by rw [cycleOnce_eq]
@[simp] theorem cycleOnce_draws (s : State) : (cycleOnce s).draws = s.draws := by rw [cycleOnce_eq]

/-- A cycle neither reads nor writes the ports. -/
theorem cycleOnce_setIo (io : Io) (s : State) : cycleOnce (s.setIo io) = (cycleOnce s).setIo io := by
  simp only [cycleOnce_eq, State.setIo]

/-- A cycle neither reads nor writes the answer of the last operation. -/
theorem cycleOnce_answer (r : Reply) (s : State) : cycleOnce (s.answer r) = (cycleOnce s).answer r := by
  simp only [cycleOnce_eq, State.answer]

@[simp] theorem cycleTimes_zero (s : State) : cycleTimes 0 s = s := rfl

theorem cycleTimes_succ (n : Nat) (s : State) : cycleTimes (n + 1) s = cycleTimes n (cycleOnce s) := rfl

theorem cycleTimes_add (a b : Nat) (s : State) : cycleTimes (a + b) s = cycleTimes b (cycleTimes a s) := by
  induction a generalizing s with
  | zero => simp
  | succ a ih => rw [show a + 1 + b = (a + b) + 1 by omega, cycleTimes_succ, ih, cycleTimes_succ]

theorem cycleTimes_setIo (n : Nat) (io : Io) (s : State) : cycleTimes n (s.setIo io) = (cycleTimes n s).setIo io := by
  induction n generalizing s with
  | zero => rfl
  | succ n ih => rw [cycleTimes_succ, cycleTimes_succ, cycleOnce_setIo, ih]

theorem cycleTimes_answer (n : Nat) (r : Reply) (s : State) :
    cycleTimes n (s.answer r) = (cycleTimes n s).answer r := by
  induction n generalizing s with
  | zero => rfl
  | succ n ih => rw [cycleTimes_succ, cycleTimes_succ, cycleOnce_answer, ih]

/-- Whatever a cycle keeps, a batch of cycles keeps. -/
theorem cycleTimes_keeps {P : State → Prop} (h : ∀ s, P s → P (cycleOnce s)) (n : Nat) (s : State) (hs : P s) :
    P (cycleTimes n s) := by
  induction n generalizing s with
  | zero => exact hs
  | succ n ih => exact ih _ (h s hs)

@[simp] theorem cycleTimes_cycles (n : Nat) (s : State) : (cycleTimes n s).cycles = s.cycles + n := by
  induction n generalizing s with
  | zero => rfl
  | succ n ih =>
    rw [cycleTimes_succ, ih, cycleOnce_cycles]
    omega

@[simp] theorem cycleTimes_io (n : Nat) (s : State) : (cycleTimes n s).io = s.io :=
  cycleTimes_keeps (P := fun t => t.io = s.io) (fun t h => (cycleOnce_io t).trans h) n s rfl

@[simp] theorem cycleTimes_input (n : Nat) (s : State) : (cycleTimes n s).input = s.input :=
  cycleTimes_keeps (P := fun t => t.input = s.input) (fun t h => (cycleOnce_input t).trans h) n s rfl

@[simp] theorem cycleTimes_fatal (n : Nat) (s : State) : (cycleTimes n s).fatal = s.fatal :=
  cycleTimes_keeps (P := fun t => t.fatal = s.fatal) (fun t h => (cycleOnce_fatal t).trans h) n s rfl

@[simp] theorem cycleTimes_mode0 (n : Nat) (s : State) : (cycleTimes n s).mode0 = s.mode0 :=
  cycleTimes_keeps (P := fun t => t.mode0 = s.mode0) (fun t h => (cycleOnce_mode0 t).trans h) n s rfl

@[simp] theorem cycleTimes_mode1 (n : Nat) (s : State) : (cycleTimes n s).mode1 = s.mode1 :=
  cycleTimes_keeps (P := fun t => t.mode1 = s.mode1) (fun t h => (cycleOnce_mode1 t).trans h) n s rfl

theorem tick_vblankLatch (fmt : TvFormat) (t : Tia) : (t.tick fmt).vblankLatch = t.vblankLatch := by rw [tick_eq]

theorem tick_vblankDump (fmt : TvFormat) (t : Tia) : (t.tick fmt).vblankDump = t.vblankDump := by rw [tick_eq]

theorem tick_x (fmt : TvFormat) (t : Tia) : (t.tick fmt).x = if t.x = 159 then -68 else t.x + 1 := by
  rw [tick_eq]
  simp [Tia.lastClock]

theorem tick_waitHBlank (fmt : TvFormat) (t : Tia) :
    (t.tick fmt).waitHBlank = if t.x = 159 then false else t.waitHBlank := by
  rw [tick_eq]
  by_cases h : t.x = 159 <;> simp [Tia.lastClock, h]

theorem tick_y (fmt : TvFormat) (t : Tia) :
    (t.tick fmt).y = if t.x = 159 then min (t.y + 1) Config.yMax else t.y := by
  rw [tick_eq]
  simp [Tia.lastClock]

@[simp] theorem cycleTimes_vblankLatch (n : Nat) (s : State) : (cycleTimes n s).tia.vblankLatch = s.tia.vblankLatch :=
  cycleTimes_keeps (P := fun t => t.tia.vblankLatch = s.tia.vblankLatch)
    (fun t h => by rw [cycleOnce_tia, tick_vblankLatch, tick_vblankLatch, tick_vblankLatch, h]) n s rfl

@[simp] theorem cycleTimes_vblankDump (n : Nat) (s : State) : (cycleTimes n s).tia.vblankDump = s.tia.vblankDump :=
  cycleTimes_keeps (P := fun t => t.tia.vblankDump = s.tia.vblankDump)
    (fun t h => by rw [cycleOnce_tia, tick_vblankDump, tick_vblankDump, tick_vblankDump, h]) n s rfl

/-- Sampling writes the two latches and the four charge flags only. -/
theorem sampleInput_eq (s : State) :
    sampleInput s = s.setIo { s.io with
      inptLatch0 := sampledLatch s .port0
      inptLatch1 := sampledLatch s .port1
      paddleCharged0 := updatedCharge s .pot0
      paddleCharged1 := updatedCharge s .pot1
      paddleCharged2 := updatedCharge s .pot2
      paddleCharged3 := updatedCharge s .pot3 } := rfl

/-- Everything `runEvents` can do with one event. -/
theorem runEvents_cons (e : CoreEvent) (rest : List CoreEvent) (seen : List Byte) (s : State) :
    runEvents (e :: rest) seen s =
      match e with
      | .rd addr => runEvents rest ((serveRead addr (opened addr .rd s)).1 :: seen) (busRead addr s)
      | .wr addr d => runEvents rest seen (busWrite addr d s)
      | .run n => runEvents rest seen ((runCycles n s).answer .none) := by
  cases e <;> rfl

end Sys2Proof.Machine
end

