-- ==== Sys2Proof/Laws/Invariant.lean ====
section
/-! SUPPORT. Every operation keeps the invariant `State.ok`: one lemma per component, per shared operation and per
variant's effect. -/

namespace Sys2Proof.Machine

@[simp] theorem Pointers.get_set (p : Pointers) {i : Nat} (q : Pointer) (h : i < 8) : (p.set i q).get i = q := by
  match i, h with
  | 0, _ | 1, _ | 2, _ | 3, _ | 4, _ | 5, _ | 6, _ | 7, _ => rfl

theorem Pointers.get_set_ne (p : Pointers) {i j : Nat} {q : Pointer} (hi : i < 8) (hj : j < 8) (h : j ≠ i) :
    (p.set i q).get j = p.get j := by
  match i, hi, j, hj with
  | 0, _, 0, _ | 1, _, 1, _ | 2, _, 2, _ | 3, _, 3, _ | 4, _, 4, _ | 5, _, 5, _ | 6, _, 6, _ | 7, _, 7, _ =>
    exact absurd rfl h
  | 0, _, 1, _ | 0, _, 2, _ | 0, _, 3, _ | 0, _, 4, _ | 0, _, 5, _ | 0, _, 6, _ | 0, _, 7, _ => rfl
  | 1, _, 0, _ | 1, _, 2, _ | 1, _, 3, _ | 1, _, 4, _ | 1, _, 5, _ | 1, _, 6, _ | 1, _, 7, _ => rfl
  | 2, _, 0, _ | 2, _, 1, _ | 2, _, 3, _ | 2, _, 4, _ | 2, _, 5, _ | 2, _, 6, _ | 2, _, 7, _ => rfl
  | 3, _, 0, _ | 3, _, 1, _ | 3, _, 2, _ | 3, _, 4, _ | 3, _, 5, _ | 3, _, 6, _ | 3, _, 7, _ => rfl
  | 4, _, 0, _ | 4, _, 1, _ | 4, _, 2, _ | 4, _, 3, _ | 4, _, 5, _ | 4, _, 6, _ | 4, _, 7, _ => rfl
  | 5, _, 0, _ | 5, _, 1, _ | 5, _, 2, _ | 5, _, 3, _ | 5, _, 4, _ | 5, _, 6, _ | 5, _, 7, _ => rfl
  | 6, _, 0, _ | 6, _, 1, _ | 6, _, 2, _ | 6, _, 3, _ | 6, _, 4, _ | 6, _, 5, _ | 6, _, 7, _ => rfl
  | 7, _, 0, _ | 7, _, 1, _ | 7, _, 2, _ | 7, _, 3, _ | 7, _, 4, _ | 7, _, 5, _ | 7, _, 6, _ => rfl

theorem State.ok_iff (s : State) : s.ok = true ↔ Mem.ok 128 s.bus.ram = true ∧ s.bus.mapper.ok s.image.size = true ∧
   s.timer.ok = true ∧ s.tia.ok = true ∧ s.apu.ok = true ∧ s.io.ok s.cycles = true ∧ s.input.ok = true
     ∧ s.image.ok = true := by
  simp only [State.ok, Bool.and_eq_true, and_assoc]; rfl

theorem Tia.ok_iff (t : Tia) : t.ok = true ↔ (-68 ≤ t.x ∧ t.x < 160 ∧ -45 ≤ t.y ∧ t.y ≤ 320) ∧ (t.p0.pos < 160
    ∧ t.p1.pos < 160 ∧ t.m0.pos < 160 ∧ t.m1.pos < 160 ∧ t.bl.pos < 160) ∧ Mem.ok (264*160*4) t.fb = true := by
  simp only [Tia.ok, Bool.and_eq_true, decide_eq_true_eq, and_assoc]; rfl

theorem setTia_ok {s : State} {t : Tia} (h : s.ok = true) (ht : t.ok = true) : (s.setTia t).ok = true := by
  rw [State.ok_iff] at *; exact ⟨h.1, h.2.1, h.2.2.1, ht, h.2.2.2.2⟩

theorem State.tia_ok {s : State} (h : s.ok = true) : s.tia.ok = true := ((State.ok_iff s).1 h).2.2.2.1

theorem strobedP_lt (x : Int) : strobedP x < 160 := by
  unfold strobedP Config.resHblankP; split
  · decide
  · exact emod_lt _ (by decide)

theorem strobedMB_lt (x : Int) : strobedMB x < 160 := by
  unfold strobedMB Config.resHblankMB; split
  · decide
  · exact emod_lt _ (by decide)

theorem setApu_ok {s : State} {a : Apu} (h : s.ok = true) (ha : a.ok = true) : (s.setApu a).ok = true := by
  rw [State.ok_iff] at *; exact ⟨h.1, h.2.1, h.2.2.1, h.2.2.2.1, ha, h.2.2.2.2.2⟩

theorem setIo_ok {s : State} {io : Io} (h : s.ok = true) (ha : io.paddleStart ≤ s.cycles) :
    (s.setIo io).ok = true := by
  rw [State.ok_iff] at *; exact ⟨h.1, h.2.1, h.2.2.1, h.2.2.2.1, h.2.2.2.2.1, by simp [Io.ok, State.setIo, ha],
    h.2.2.2.2.2.2⟩

theorem setTimer_ok {s : State} {io : Timer} (h : s.ok = true) (ha : io.ok = true) : (s.setTimer io).ok = true := by
  rw [State.ok_iff] at *; exact ⟨h.1, h.2.1, ha, h.2.2.2⟩

theorem setMapper_ok {s : State} {m : Mapper} (h : s.ok = true) (ha : m.ok s.image.size = true) :
    (s.setMapper m).ok = true := by
  rw [State.ok_iff] at *; exact ⟨h.1, ha, h.2.2⟩

theorem log_ok {s : State} (k : AnomalyKind) (n : Nat) (addr : Addr) (h : s.ok = true) : (s.log k n addr).ok = true := h

theorem drew_ok {s : State}  (h : s.ok = true) : (s.drew).ok = true := h

theorem closeRead_ok {addr : Addr} {r : Byte × State} (h : r.2.ok = true) : (closeRead addr r).ok = true := h

theorem closeWrite_ok {addr : Addr} {s : State} (h : s.ok = true) : (closeWrite addr s).ok = true := h

theorem answer_ok {r : Reply} {s : State} (h : s.ok = true) : (s.answer r).ok = true := h

theorem paddleStart_le {s : State} (h : s.ok = true) : s.io.paddleStart ≤ s.cycles := by
  have := ((State.ok_iff s).1 h).2.2.2.2.2.1; simpa [Io.ok] using this

theorem fresh_ok (v : Tag) (n : Nat) (h : v = .m3f → 2048 ≤ n) : (fresh v).ok n = true := by
  cases v <;> try rfl
  simp [fresh, Mapper.ok]; have := h rfl; omega

theorem resolve_ok (addr : Addr) (w : Bool) {s : State} (h : s.ok = true) : (resolve addr w s).ok = true := by
  rcases resolve_cases addr w s with e | ⟨_, _, v, hv, e⟩ <;> rw [e]
  · exact h
  · apply setMapper_ok h; apply fresh_ok; intro _; omega

theorem snoopWrite_ok (addr : Addr) (d : Byte) {s : State} (h : s.ok = true) : (snoopWrite addr d s).ok = true := by
  rcases snoopWrite_cases addr d s with e | ⟨b, hb, e⟩ | ⟨b, hb, e⟩ <;> rw [e]
  · exact h
  · apply setMapper_ok h
    have := ((State.ok_iff s).1 h).2.1
    rw [hb] at this
    simp only [Mapper.ok, decide_eq_true_eq] at *
    exact bankOf3F_lt (by unfold banks3F; omega)
  · exact log_ok _ _ _ h

theorem opened_ok (addr : Addr) (acc : Access) {s : State} (h : s.ok = true) : (opened addr acc s).ok = true := by
  cases acc with
  | rd => exact resolve_ok addr false h
  | wr d => exact snoopWrite_ok addr d (resolve_ok addr true h)

theorem romByte_ok (i : Nat) {s : State} (h : s.ok = true) : (romByte i s).2.ok = true := by
  rcases romByte_state i s with e | e <;> rw [e]; exact h; exact h

theorem readCycle_ok {addr : Addr} {f : State → Byte × State} (hf : ∀ s, s.ok = true → (f s).2.ok = true) {s t
    : State} (h : s.ok = true) (e : readCycle addr f s = .next t) : t.ok = true := by
  obtain ⟨_, rfl⟩ := readCycle_next.1 e
  exact hf _ (opened_ok _ _ h)

theorem writeCycle_ok {addr : Addr} {d : Byte} {f : State → State} (hf : ∀ s, s.ok = true → (f s).ok = true) {s t
    : State} (h : s.ok = true) (e : writeCycle addr d f s = .next t) : t.ok = true := by
  obtain ⟨_, rfl⟩ := writeCycle_next.1 e
  exact hf _ (opened_ok _ _ h)

theorem cartRead_ok {α : Type} {pick : Mapper → Option α} {addr : Addr} {f : α → State → Byte × State} (hf : ∀ m s,
    pick s.bus.mapper = some m → s.ok = true → (f m s).2.ok = true) {s t : State} (h : s.ok = true) (e
      : cartRead pick addr f s = .next t) : t.ok = true := by
  obtain ⟨_, m, hm, rfl⟩ := cartRead_next.1 e
  exact hf _ _ hm (opened_ok _ _ h)

theorem cartWrite_ok {α : Type} {pick : Mapper → Option α} {addr : Addr} {d : Byte} {f : α → State → State} (hf
    : ∀ m s, pick s.bus.mapper = some m → s.ok = true → (f m s).ok = true) {s t : State} (h : s.ok = true) (e
      : cartWrite pick addr d f s = .next t) : t.ok = true := by
  obtain ⟨_, m, hm, rfl⟩ := cartWrite_next.1 e
  exact hf _ _ hm (opened_ok _ _ h)

theorem cartAccess_ok {α : Type} {pick : Mapper → Option α} {addr : Addr} {acc : Access} {f : α → State
    → Byte × State} {g : α → Byte → State → State}
  (hf : ∀ m s, pick s.bus.mapper = some m → s.ok = true → (f m s).2.ok = true)
  (hg : ∀ m d s, pick s.bus.mapper = some m → s.ok = true → (g m d s).ok = true) {s t : State} (h : s.ok = true) (e
    : cartAccess pick addr acc f g s = .next t) : t.ok = true := by
  cases acc with
  | rd => exact cartRead_ok hf h e
  | wr d => exact cartWrite_ok (f := fun m => g m d) (fun m s => hg m d s) h e

theorem whileLive_ok {f : State → State} (hf : ∀ s, s.ok = true → (f s).ok = true) {s t : State} (h : s.ok = true)
    (e : whileLive f s = .next t) : t.ok = true := by
  obtain ⟨_, rfl⟩ := whileLive_next.1 e
  exact hf _ h

theorem wrVsync_ok (d : Byte) {s : State} (h : s.ok = true) : (wrVsync d s).ok = true := by
  have ht := (Tia.ok_iff _).1 (State.tia_ok h)
  unfold wrVsync; split
  · apply setTia_ok h
    rw [Tia.ok_iff]
    refine ⟨⟨ht.1.1, ht.1.2.1, ?_, ?_⟩, ht.2⟩ <;> cases s.tvFormat <;> simp [Config.yTop]
  · exact h

theorem wrVblank_ok (d : Byte) {s : State} (h : s.ok = true) : (wrVblank d s).ok = true := by
  have hp := paddleStart_le h
  have e : wrVblank d s = (s.setTia { s.tia with
      vblankBlank := bit d 1, vblankLatch := bit d 6, vblankDump := bit d 7 }).setIo
        (resetLatches d (dumpPaddles d s)) := rfl
  rw [e]
  apply setIo_ok
  · exact h
  · unfold resetLatches dumpPaddles
    show _ ≤ s.cycles
    split <;> (try split) <;> (try split) <;> first | exact hp | exact Nat.le_refl _

theorem positionStrobes_ok {s : State} (h : s.ok = true) : (wrResp0 s).ok = true ∧ (wrResp1 s).ok = true ∧
    (wrResm0 s).ok = true ∧ (wrResm1 s).ok = true ∧ (wrResbl s).ok = true := by
  have ht := (Tia.ok_iff _).1 (State.tia_ok h)
  have a := strobedP_lt s.tia.x
  have b := strobedMB_lt s.tia.x
  obtain ⟨t1, ⟨t2, t3, t4, t5, t6⟩, t7⟩ := ht
  refine ⟨?_, ?_, ?_, ?_, ?_⟩ <;> apply setTia_ok h <;> rw [Tia.ok_iff]
  · exact ⟨t1, ⟨a, t3, t4, t5, t6⟩, t7⟩
  · exact ⟨t1, ⟨t2, a, t4, t5, t6⟩, t7⟩
  · exact ⟨t1, ⟨t2, t3, b, t5, t6⟩, t7⟩
  · exact ⟨t1, ⟨t2, t3, t4, b, t6⟩, t7⟩
  · exact ⟨t1, ⟨t2, t3, t4, t5, b⟩, t7⟩

theorem tiaWrite_ok (k : Nat) (d : Byte) {s : State} (h : s.ok = true) : (tiaWrite k d s).ok = true := by
  obtain ⟨s0, s1, s2, s3, s4⟩ := positionStrobes_ok h
  unfold tiaWrite
  split
  · exact wrVsync_ok d h
  · exact wrVblank_ok d h
  iterate 14 exact h
  · exact s0
  · exact s1
  · exact s2
  · exact s3
  · exact s4
  all_goals exact h

theorem wrRam_ok {addr d} {s : State} (h : s.ok = true) : (wrRam addr d s).ok = true := by
  rw [State.ok_iff] at *
  exact ⟨Mem.ok_write d (a7_lt addr) h.1, h.2⟩

theorem State.timer_ok {s : State} (h : s.ok = true) : s.timer.ok = true := ((State.ok_iff _).1 h).2.2.1

theorem Timer.reload_ok (t : Timer) : t.reload.ok = true := by
  unfold Timer.reload Timer.reloadSub Timer.ok
  split
  · rfl
  · cases t.interval <;> rfl

theorem wrTimer_ok (i : Divider) (d : Byte) {s : State} (h : s.ok = true) : (wrTimer i d s).ok = true :=
  setTimer_ok h (Timer.reload_ok _)

theorem Timer.tick_ok {t : Timer} (h : t.ok = true) : t.tick.ok = true := by
  unfold Timer.tick; split
  · exact Timer.reload_ok _
  · simp [Timer.ok] at *; omega

theorem advancedPos_lt (t : Tia) (p : Nat) (hm) (h : p < 160) : advancedPos t p hm < 160 := by
  unfold advancedPos; split
  · exact emod_lt _ (by decide)
  · exact h

theorem lockedPos_lt (m : Missile) (p : Player) (h : m.pos < 160) : lockedPos m p < 160 := by
  unfold lockedPos; split
  · exact emod_lt _ (by decide)
  · exact h

theorem writePixel_ok {fb : Mem} {o n : Nat} {c} (ho : o + 3 < n) (h : Mem.ok n fb = true) : Mem.ok n
    (fb.writePixel o c) = true := by
  unfold Mem.writePixel
  exact Mem.ok_write _ (by omega) (Mem.ok_write _ (by omega) (Mem.ok_write _ (by omega) (Mem.ok_write _
    (by omega) h)))

theorem Tia.tick_ok (f : TvFormat) {t : Tia} (h : t.ok = true) : (t.tick f).ok = true := by
  rw [tick_eq]
  rw [Tia.ok_iff] at *
  obtain ⟨⟨x1, x2, y1, y2⟩, ⟨t2, t3, t4, t5, t6⟩, t7⟩ := h
  refine ⟨⟨?_, ?_, ?_, ?_⟩, ⟨advancedPos_lt _ _ _ t2, advancedPos_lt _ _ _ t3, advancedPos_lt _ _ _
    (lockedPos_lt _ _ t4), advancedPos_lt _ _ _ (lockedPos_lt _ _ t5), advancedPos_lt _ _ _ t6⟩, ?_⟩
  · simp only [Tia.lastClock, decide_eq_true_eq]; show -68 ≤ (if t.x = 159 then -68 else t.x + 1); split <;> omega
  · simp only [Tia.lastClock, decide_eq_true_eq]; show (if t.x = 159 then -68 else t.x + 1) < 160; split <;> omega
  · simp only [Config.yMax]; split <;> omega
  · simp only [Config.yMax]; split <;> omega
  · simp only []; split
    · show Mem.ok _ (fbWrite t.fb t.y t.x _) = true
      unfold fbWrite Config.fbH; split
      · apply writePixel_ok _ t7
        unfold pixelOffset Config.fbW; omega
      · exact t7
    · exact t7

theorem step4_ne (p : BitVec 4) (h : p ≠ 0) : step4 p ≠ 0 := by revert p; decide

theorem step5_ne (p : BitVec 5) (h : p ≠ 0) : step5 p ≠ 0 := by revert p; decide

theorem step9_ne (p : BitVec 9) (h : p ≠ 0) : step9 p ≠ 0 := by revert p; decide

theorem Channel.ok_iff (c : Channel) : c.ok = true ↔ c.sub ≤ 14 ∧ c.div31 ≤ 30 ∧ c.poly4 ≠ 0 ∧ c.poly5 ≠ 0
    ∧ c.poly9 ≠ 0 := by
  simp [Channel.ok, and_assoc]

theorem Channel.clock_ok {c : Channel} (h : c.ok = true) : c.clock.ok = true := by
  rw [Channel.ok_iff] at h
  unfold Channel.clock
  have hp : prescaleOf c.audc ≤ 15 := by generalize c.audc = a; revert a; decide
  split
  · unfold Channel.genStep; split
    · rename_i h2; simp only at h2; rw [Channel.ok_iff]; exact ⟨by simp only []; omega, h.2⟩
    · unfold Channel.generate
      split <;> rw [Channel.ok_iff] <;> simp only []
      · exact ⟨by omega, h.2⟩
      · exact ⟨by omega, h.2.1, step4_ne _ h.2.2.1, h.2.2.2⟩
      · refine ⟨by omega, h.2.1, ?_, step5_ne _ h.2.2.2.1, h.2.2.2.2⟩
        split
        · exact step4_ne _ h.2.2.1
        · exact h.2.2.1
      · exact ⟨by omega, h.2⟩
      · exact ⟨by omega, by omega, h.2.2⟩
      · exact ⟨by omega, h.2.1, h.2.2.1, step5_ne _ h.2.2.2.1, h.2.2.2.2⟩
      · exact ⟨by omega, h.2.1, h.2.2.1, h.2.2.2.1, step9_ne _ h.2.2.2.2⟩
  · rw [Channel.ok_iff]; exact h

theorem Apu.ok_iff (a : Apu) : a.ok = true ↔ a.ch0.ok = true ∧ a.ch1.ok = true ∧ a.clk < 38 ∧ a.acc ≤ 30 * a.n
    ∧ a.buf.length ≤ 16384 ∧ a.buf.length % 4 = 0 := by
  simp only [Apu.ok, and_assoc, Bool.and_eq_true, decide_eq_true_eq, beq_iff_eq]; rfl

theorem Channel.level_le (c : Channel) : c.level ≤ 15 := by
  unfold Channel.level; split
  · have := c.audv.isLt; omega
  · omega

theorem Apu.prescale_ok {a : Apu} (h : a.ok = true) : a.prescale.ok = true := by
  rw [Apu.ok_iff] at *
  unfold Apu.prescale Config.audioClockDiv; split
  · exact ⟨Channel.clock_ok h.1, Channel.clock_ok h.2.1, by simp, h.2.2.2⟩
  · exact ⟨h.1, h.2.1, by simp only []; omega, h.2.2.2⟩

theorem Apu.accumulate_ok {a : Apu} (h : a.ok = true) : a.accumulate.ok = true := by
  rw [Apu.ok_iff] at *
  refine ⟨h.1, h.2.1, h.2.2.1, ?_, h.2.2.2.2⟩
  have := Channel.level_le a.ch0; have := Channel.level_le a.ch1
  show a.acc + (a.ch0.level + a.ch1.level) ≤ 30 * (a.n + 1)
  omega

theorem Apu.emit_ok {a : Apu} (h : a.ok = true) : a.emit.ok = true := by
  rw [Apu.ok_iff] at *
  unfold Apu.emit Apu.pushFrame Config.audioBufCap
  split
  · refine ⟨h.1, h.2.1, h.2.2.1, by simp, ?_, ?_⟩ <;> simp [frameBytes] <;> omega
  · exact ⟨h.1, h.2.1, h.2.2.1, by simp, h.2.2.2.2⟩

theorem Apu.tick_ok (f n) {a : Apu} (h : a.ok = true) : (a.tick f n).ok = true := by
  unfold Apu.tick; split
  · exact Apu.emit_ok (Apu.accumulate_ok (Apu.prescale_ok h))
  · exact Apu.accumulate_ok (Apu.prescale_ok h)

theorem Pointers.ok_iff (p : Pointers) : p.ok = true ↔ (∀ i, i < 8 → (p.get i).ok = true) ∧ (∀ i, i < 5 →
    (p.get i).musicMode = false) := by
  simp only [Pointers.ok, Bool.and_eq_true, Bool.not_eq_true']
  constructor
  · intro h; constructor
    · intro i hi
      match i, hi with
      | 0, _ | 1, _ | 2, _ | 3, _ | 4, _ | 5, _ | 6, _ | 7, _ => simp [Pointers.get, h]
    · intro i hi
      match i, hi with
      | 0, _ | 1, _ | 2, _ | 3, _ | 4, _ => simp [Pointers.get, h]
  · rintro ⟨a, b⟩
    exact ⟨⟨⟨⟨⟨⟨⟨⟨⟨⟨⟨⟨a 0 (by decide), a 1 (by decide)⟩, a 2 (by decide)⟩, a 3 (by decide)⟩, a 4 (by decide)⟩, a 5
      (by decide)⟩, a 6 (by decide)⟩, a 7 (by decide)⟩, b 0 (by decide)⟩, b 1 (by decide)⟩, b 2 (by decide)⟩, b 3
        (by decide)⟩, b 4 (by decide)⟩

theorem Pointers.ok_set {p : Pointers} {i : Nat} {q : Pointer} (hi : i < 8) (h : p.ok = true) (hq : q.ok = true) (hm : i < 5
    → q.musicMode = false) : (p.set i q).ok = true := by
  rw [Pointers.ok_iff] at *
  constructor
  · intro j hj; by_cases e : j = i
    · subst e; rw [Pointers.get_set _ _ hi]; exact hq
    · rw [Pointers.get_set_ne _ hi hj e]; exact h.1 j hj
  · intro j hj; by_cases e : j = i
    · subst e; rw [Pointers.get_set _ _ hi]; exact hm hj
    · rw [Pointers.get_set_ne _ hi (by omega) e]; exact h.2 j hj

theorem Dpc.ok_iff (m : Dpc) (n : Nat) : (Mapper.dpc m).ok n = true ↔ m.bank < 2 ∧ m.ptr.ok = true
    ∧ m.oscTicks < 60 := by
  simp only [Mapper.ok, and_assoc, Bool.and_eq_true, decide_eq_true_eq]; rfl

theorem Pointers.ok_get {p : Pointers} {i : Nat} (hi : i < 8) (h : p.ok = true) : (p.get i).ok = true :=
    ((Pointers.ok_iff p).1 h).1 i hi

theorem Pointers.musicMode_get {p : Pointers} {i : Nat} (hi : i < 5) (h : p.ok = true) : (p.get i).musicMode = false :=
    ((Pointers.ok_iff p).1 h).2 i hi

theorem Pointer.window_ok {p : Pointer} (h : p.ok = true) : p.window.ok = true := by
  unfold Pointer.window; split
  · rfl
  · split
    · rfl
    · exact h

theorem Pointer.window_musicMode (p : Pointer) : p.window.musicMode = p.musicMode := by
  unfold Pointer.window; split
  · rfl
  · split <;> rfl

theorem Pointer.counted_ok {p : Pointer} (i) (h : p.ok = true) : (p.counted i).ok = true := by
  unfold Pointer.counted; split <;> exact h

theorem Pointer.counted_musicMode (p : Pointer) (i) : (p.counted i).musicMode = p.musicMode := by
  unfold Pointer.counted; split <;> rfl

theorem State.mapper_ok {s : State} (h : s.ok = true) : s.bus.mapper.ok s.image.size = true := ((State.ok_iff s).1 h).2.1

theorem pickDpc_ok {m : Dpc} {s : State} (hm : pickDpc s.bus.mapper = some m) (h : s.ok = true) : m.bank < 2
    ∧ m.ptr.ok = true ∧ m.oscTicks < 60 := by
  have := State.mapper_ok h
  unfold pickDpc at hm; split at hm <;> try contradiction
  rename_i e; simp at hm; subst hm; rw [e] at this; exact (Dpc.ok_iff _ _).1 this

theorem dpcRegRead_ok {res : Nat → Dpc → State → Byte × State} (hr : ∀ i m s, s.ok = true → (res i m s).2.ok = true)
    (addr : Addr) (m : Dpc) (s : State) (hm : pickDpc s.bus.mapper = some m) (h : s.ok = true) :
      (dpcRegRead res addr m s).2.ok = true := by
  obtain ⟨b1, b2, b3⟩ := pickDpc_ok hm h
  unfold dpcRegRead
  apply setMapper_ok (hr _ _ _ h)
  rw [Dpc.ok_iff]
  refine ⟨b1, ?_, b3⟩
  apply Pointers.ok_set (a3_lt addr) b2
  · exact Pointer.counted_ok _ (Pointer.window_ok (Pointers.ok_get (a3_lt addr) b2))
  · intro h5; rw [Pointer.counted_musicMode, Pointer.window_musicMode]; exact Pointers.musicMode_get h5 b2

theorem dpcPtrWrite_ok {f : Nat → Pointer → Pointer} (hr : ∀ i p, p.ok = true → (f i p).ok = true) (hr2 : ∀ i p,
    i < 5 → p.musicMode = false → (f i p).musicMode = false) (addr : Addr) (m : Dpc) (s : State) (hm
      : pickDpc s.bus.mapper = some m) (h : s.ok = true) : (dpcPtrWrite f addr m s).ok = true := by
  obtain ⟨b1, b2, b3⟩ := pickDpc_ok hm h
  unfold dpcPtrWrite
  apply setMapper_ok h
  rw [Dpc.ok_iff]
  refine ⟨b1, ?_, b3⟩
  apply Pointers.ok_set (a3_lt addr) b2
  · exact hr _ _ (Pointers.ok_get (a3_lt addr) b2)
  · intro h5; exact hr2 _ _ h5 (Pointers.musicMode_get h5 b2)

theorem Pointer.oscillate_ok {p : Pointer} (h : p.ok = true) : p.oscillate.ok = true := by
  unfold Pointer.oscillate; split
  · unfold Pointer.ok; simp only []; split
    · rfl
    · split
      · rfl
      · exact h
  · exact h

theorem Dpc.tick_ok {m : Dpc} (n) (h : (Mapper.dpc m).ok n = true) : (Mapper.dpc m.tick).ok n = true := by
  rw [Dpc.ok_iff] at *
  unfold Dpc.tick Config.dpcOscTicks; split
  · refine ⟨h.1, ?_, by simp⟩
    have := h.2.1
    simp only [Pointers.ok, Bool.and_eq_true, Bool.not_eq_true'] at *
    obtain ⟨⟨⟨⟨⟨⟨⟨⟨⟨⟨⟨⟨a0, a1⟩, a2⟩, a3⟩, a4⟩, a5⟩, a6⟩, a7⟩, b0⟩, b1⟩, b2⟩, b3⟩, b4⟩ := this
    exact ⟨⟨⟨⟨⟨⟨⟨⟨⟨⟨⟨⟨a0, a1⟩, a2⟩, a3⟩, a4⟩, Pointer.oscillate_ok a5⟩, Pointer.oscillate_ok a6⟩, Pointer.oscillate_ok a7⟩, b0⟩, b1⟩, b2⟩, b3⟩, b4⟩
  · exact ⟨h.1, h.2.1, by simp only []; omega⟩

theorem Ar.ok_iff (m : Ar) (n : Nat) : (Mapper.ar66 m).ok n = true ↔ Mem.ok 6144 m.ram = true ∧ m.heldCount ≤ 6 := by
  simp [Mapper.ok, Config.arRamSize]

theorem arMap_lt {c : Byte} {addr : Addr} {k : Nat} (h : arMap c addr = some k) : k < 6144 := by
  have h11 := a11_lt addr
  unfold arMap at h; split at h
  · simp only [Option.map_eq_some_iff] at h
    obtain ⟨b, hb, rfl⟩ := h
    have : b ≤ 2 := by unfold arUpperBank at hb; split at hb <;> simp at hb <;> omega
    have : b * 2048 ≤ 2*2048 := Nat.mul_le_mul_right _ this
    omega
  · simp at h; subst h
    have : arLowerBank c ≤ 2 := by unfold arLowerBank; split <;> omega
    have : arLowerBank c * 2048 ≤ 2*2048 := Nat.mul_le_mul_right _ this
    omega

theorem Ar.tick_ok {m : Ar} (t n) (h : (Mapper.ar66 m).ok n = true) : (Mapper.ar66 (m.tick t)).ok n = true := by
  rw [Ar.ok_iff] at *
  have ho : Mem.ok 6144 (m.observe t).ram = true ∧ (m.observe t).heldCount ≤ 6 := by
    unfold Ar.observe; split
    · exact ⟨h.1, by simp only []; omega⟩
    · exact ⟨h.1, by simp⟩
  unfold Ar.tick; split
  · unfold Ar.commit; split
    · split
      · rename_i e; exact ⟨Mem.ok_write _ (arMap_lt e) ho.1, ho.2⟩
      · exact ho
    · exact ho
  · exact ho

theorem tickedMapper_ok {b : Bus} {n} (h : b.mapper.ok n = true) : b.tickedMapper.ok n = true := by
  unfold Bus.tickedMapper
  split <;> rename_i e
  · rw [e] at h; simp [Mapper.ok, feNext] at *; split <;> (try split) <;> omega
  · rw [e] at h; exact Dpc.tick_ok _ h
  · rw [e] at h; exact Ar.tick_ok _ _ h
  · exact h

theorem cycleOnce_ok {s : State} (h : s.ok = true) : (cycleOnce s).ok = true := by
  rw [cycleOnce_eq]
  rw [State.ok_iff] at *
  refine ⟨h.1, tickedMapper_ok h.2.1, Timer.tick_ok h.2.2.1, Tia.tick_ok _ (Tia.tick_ok _ (Tia.tick_ok _ h.2.2.2.1)),
    Apu.tick_ok _ _ h.2.2.2.2.1, ?_, h.2.2.2.2.2.2⟩
  have := h.2.2.2.2.2.1
  simp [Io.ok] at *; omega

theorem sampleInput_ok {s : State} (h : s.ok = true) : (sampleInput s).ok = true := setIo_ok h (paddleStart_le h)

theorem runCycles_ok (n) {s : State} (h : s.ok = true) : (runCycles n s).ok = true := sampleInput_ok (cycleTimes_keeps (P :=
    fun s => s.ok = true) (fun _ => cycleOnce_ok) n s h)

theorem fillDrawn_ok (n : Nat) : ∀ (c k : Nat) (r : Mem × State), k + c ≤ n → Mem.ok n r.1 = true → Mem.ok n
    (fillDrawn c k r).1 = true := by
  intro c; induction c with
  | zero => intro k r _ h; exact h
  | succ c ih => intro k r hk h; exact ih _ _ (by omega) (Mem.ok_write _ (by omega) h)

theorem fillDrawn_keeps (P : State → Prop) (hP : ∀ s, P s → P s.drew) : ∀ (c k : Nat) (r : Mem × State), P r.2 → P
    (fillDrawn c k r).2 := by
  intro c; induction c with
  | zero => intro k r h; exact h
  | succ c ih => intro k r h; exact ih _ _ (hP _ h)

theorem arInitialize_ok {s : State} (h : s.ok = true) : (arInitialize s).ok = true := by
  unfold arInitialize
  apply setMapper_ok
  · apply romByte_ok; apply romByte_ok; apply romByte_ok
    exact fillDrawn_keeps (fun s => s.ok = true) (fun _ => drew_ok) _ _ _ h
  · rw [Ar.ok_iff]
    refine ⟨?_, by simp⟩
    have hi : s.image.ok = true := ((State.ok_iff s).1 h).2.2.2.2.2.2.2
    unfold arImageRam Config.arRamSize
    have hw : s.image.bytes.wf = true := by
      simp [Image.ok, Mem.ok] at hi; exact hi.1
    by_cases hs : s.image.size ≤ 6144
    · exact fillDrawn_ok 6144 _ _ _ (by omega) (Mem.ok_take _ hw)
    · rw [show 6144 - s.image.size = 0 by omega]; exact Mem.ok_take _ hw

theorem twoBits_ok (a b) {s : State} (h : s.ok = true) : (twoBits a b s).2.ok = true := h

theorem topBit_ok (a) {s : State} (h : s.ok = true) : (topBit a s).2.ok = true := h

theorem potLine_ok (k) {s : State} (h : s.ok = true) : (potLine k s).2.ok = true := by
  unfold potLine; split <;> exact h

theorem readPot_ok (k) {s : State} (h : s.ok = true) : (readPot k s).2.ok = true := topBit_ok _ (potLine_ok _ h)

theorem pickStd_ok {k} {m : Std} {s : State} (hm : pickStd k s.bus.mapper = some m) (h : s.ok = true) : m.kind = k
    ∧ m.bank < m.kind.nbanks ∧ Mem.ok 128 m.scRam = true := by
  have := State.mapper_ok h
  unfold pickStd at hm; split at hm <;> try contradiction
  rename_i e; split at hm <;> simp at hm; subst hm; rw [e] at this; simp [Mapper.ok] at this; exact ⟨by assumption,
    this⟩

theorem setMapper_std_ok {m : Std} {s : State} (h : s.ok = true) (h1 : m.bank < m.kind.nbanks) (h2
    : Mem.ok 128 m.scRam = true) : (s.setMapper (.std m)).ok = true := by
  apply setMapper_ok h; simp [Mapper.ok, h1, h2]

theorem stdBank_ok {k : StdKind} (b : Nat) (hb : b < k.nbanks) (addr : Addr) (acc) {s t : State} (h : s.ok = true)
    (e : cartAccess (pickStd k) addr acc (stdBankRead b addr) (stdBankWrite b) s = .next t) : t.ok = true := by
  refine cartAccess_ok ?_ ?_ h e
  · intro m s hm h
    obtain ⟨a, b1, c⟩ := pickStd_ok hm h
    exact romByte_ok _ (setMapper_std_ok h (by show b < m.kind.nbanks; rw [a]; exact hb) c)
  · intro m d s hm h
    obtain ⟨a, b1, c⟩ := pickStd_ok hm h
    exact (setMapper_std_ok h (by show b < m.kind.nbanks; rw [a]; exact hb) c)

theorem stdScw_ok {k : StdKind} (addr : Addr) (d) {s t : State} (h : s.ok = true) (e : cartWrite (pickStd k) addr d
    (stdScWrite addr d) s = .next t) : t.ok = true := by
  refine cartWrite_ok ?_ h e
  intro m s hm h
  obtain ⟨a, b1, c⟩ := pickStd_ok hm h
  exact setMapper_std_ok h b1 (Mem.ok_write _ (a7_lt addr) c)

theorem stdScr_ok {k : StdKind} (addr : Addr) {s t : State} (h : s.ok = true) (e : cartRead (pickStd k) addr
    (stdScRead addr) s = .next t) : t.ok = true := by
  refine cartRead_ok ?_ h e
  intro m s hm h
  unfold stdScRead; split
  · exact h
  · exact romByte_ok _ h

theorem stdRom_ok {k : StdKind} (addr : Addr) {s t : State} (h : s.ok = true) (e : cartRead (pickStd k) addr
    (stdRomRead addr) s = .next t) : t.ok = true := by
  refine cartRead_ok ?_ h e
  intro m s hm h
  unfold stdRomRead; split
  · exact h
  · exact romByte_ok _ h

theorem cartWrite_keepState_ok {α : Type} {pick : Mapper → Option α} (addr : Addr) (d) {s t : State} (h : s.ok = true) (e
    : cartWrite pick addr d keepState s = .next t) : t.ok = true := cartWrite_ok (fun _ _ _ h => h) h e

theorem pickFa_ok {m : Fa} {s : State} (hm : pickFa s.bus.mapper = some m) (h : s.ok = true) : m.bank < 3
    ∧ Mem.ok 256 m.ram = true := by
  have := State.mapper_ok h
  unfold pickFa at hm; split at hm <;> try contradiction
  rename_i e;  simp at hm; subst hm; rw [e] at this; simp [Mapper.ok] at this; exact this

theorem faBank_ok (b : Nat) (hb : b < 3) (addr : Addr) (acc) {s t : State} (h : s.ok = true) (e
    : cartAccess pickFa addr acc (faBankRead b addr) (faBankWrite b) s = .next t) : t.ok = true := by
  have hs : ∀ (m : Fa) (s : State), pickFa s.bus.mapper = some m → s.ok = true → (s.setMapper (.fa
    (m.select b))).ok = true := by
    intro m s hm h; have := pickFa_ok hm h; apply setMapper_ok h; simp [Mapper.ok, Fa.select, hb, this]
  refine cartAccess_ok (fun m s hm h => romByte_ok _ (hs m s hm h)) (fun m d s hm h => hs m s hm h) h e

theorem pickE7_ok {m : E7} {s : State} (hm : pickE7 s.bus.mapper = some m) (h : s.ok = true) :
    (m.bank ≤ 6 ∨ m.bank = 8) ∧ m.ramBank < 4 ∧ Mem.ok 1024 m.ram1k = true ∧ Mem.ok 1024 m.ram256 = true := by
  have := State.mapper_ok h
  unfold pickE7 at hm; split at hm <;> try contradiction
  rename_i e;  simp at hm; subst hm; rw [e] at this; simp [Mapper.ok, and_assoc] at this; exact this

theorem setMapper_e7_ok {m : E7} {s : State} (h : s.ok = true) (h1 : (m.bank ≤ 6 ∨ m.bank = 8) ∧ m.ramBank < 4
    ∧ Mem.ok 1024 m.ram1k = true ∧ Mem.ok 1024 m.ram256 = true) : (s.setMapper (.e7 m)).ok = true := by
  apply setMapper_ok h; simp [Mapper.ok, h1]

theorem e7Select_ok (f : E7 → E7) (hf : ∀ m : E7, ((m.bank ≤ 6 ∨ m.bank = 8) ∧ m.ramBank < 4
    ∧ Mem.ok 1024 m.ram1k = true ∧ Mem.ok 1024 m.ram256 = true) → (((f m).bank ≤ 6 ∨ (f m).bank = 8) ∧
      (f m).ramBank < 4 ∧ Mem.ok 1024 (f m).ram1k = true ∧ Mem.ok 1024 (f m).ram256 = true)) (addr : Addr) (acc)
        {s t : State} (h : s.ok = true) (e : cartAccess pickE7 addr acc (e7SelectRead f addr)
          (e7SelectWrite f) s = .next t) : t.ok = true :=
  cartAccess_ok (fun m _ hm h => romByte_ok _ (setMapper_e7_ok h (hf m (pickE7_ok hm h)))) (fun m _ _ hm h => setMapper_e7_ok h
    (hf m (pickE7_ok hm h))) h e

theorem pickE0_ok {m : E0} {s : State} (hm : pickE0 s.bus.mapper = some m) (h : s.ok = true) : m.slice0 < 8
    ∧ m.slice1 < 8 ∧ m.slice2 < 8 := by
  have := State.mapper_ok h
  unfold pickE0 at hm; split at hm <;> try contradiction
  rename_i e;  simp at hm; subst hm; rw [e] at this; simp [Mapper.ok, and_assoc] at this; exact this

theorem e0Select_ok (f : E0 → E0) (hf : ∀ m : E0, (m.slice0 < 8 ∧ m.slice1 < 8 ∧ m.slice2 < 8) → ((f m).slice0 < 8 ∧
    (f m).slice1 < 8 ∧ (f m).slice2 < 8)) (addr : Addr) (acc) {s t : State} (h : s.ok = true) (e
      : cartAccess pickE0 addr acc (e0SelectRead f addr) (e0SelectWrite f) s = .next t) : t.ok = true := by
  have hs : ∀ (m : E0) (s : State), pickE0 s.bus.mapper = some m → s.ok = true → (s.setMapper (.e0
    (f m))).ok = true := by
    intro m s hm h; apply setMapper_ok h; simp [Mapper.ok, hf m (pickE0_ok hm h)]
  exact cartAccess_ok (fun m s hm h => romByte_ok _ (hs m s hm h)) (fun m d s hm h => hs m s hm h) h e

theorem pickC0_ok {m : Mem} {s : State} (hm : pickC0 s.bus.mapper = some m) (h : s.ok = true)
    : Mem.ok 1024 m = true := by
  have := State.mapper_ok h
  unfold pickC0 at hm; split at hm <;> try contradiction
  rename_i e;  simp at hm; subst hm; rw [e] at this; exact this

theorem pickF0_ok {m : Nat} {s : State} (hm : pickF0 s.bus.mapper = some m) (h : s.ok = true) : m < 16 := by
  have := State.mapper_ok h
  unfold pickF0 at hm; split at hm <;> try contradiction
  rename_i e;  simp at hm; subst hm; rw [e] at this; simpa [Mapper.ok] using this

theorem pickAr_ok {m : Ar} {s : State} (hm : pickAr s.bus.mapper = some m) (h : s.ok = true)
    : Mem.ok 6144 m.ram = true ∧ m.heldCount ≤ 6 := by
  have := State.mapper_ok h
  unfold pickAr at hm; split at hm <;> try contradiction
  rename_i e;  simp at hm; subst hm; rw [e] at this; exact (Ar.ok_iff _ _).1 this

theorem arByte_ok (addr m) {s : State} (h : s.ok = true) : (arByte addr m s).2.ok = true := by
  unfold arByte; split <;> exact h

theorem arTouch_ok (f : Ar → Ar) (hf : ∀ m : Ar, Mem.ok 6144 m.ram = true ∧ m.heldCount ≤ 6 → Mem.ok 6144
    (f m).ram = true ∧ (f m).heldCount ≤ 6) (addr : Addr) (acc) {s t : State} (h : s.ok = true) (e
      : cartAccess pickAr addr acc (arTouchRead f addr) (arTouchWrite f) s = .next t) : t.ok = true := by
  have hs : ∀ (m : Ar) (s : State), pickAr s.bus.mapper = some m → s.ok = true → (s.setMapper (.ar66
    (f m))).ok = true := by
    intro m s hm h; apply setMapper_ok h; exact (Ar.ok_iff _ _).2 (hf m (pickAr_ok hm h))
  exact cartAccess_ok (fun m s hm h => arByte_ok _ _ (hs m s hm h)) (fun m d s hm h => hs m s hm h) h e

theorem dpcBank_ok (b : Nat) (hb : b < 2) (addr : Addr) (acc) {s t : State} (h : s.ok = true) (e
    : cartAccess pickDpc addr acc (dpcBankRead b addr) (dpcBankWrite b) s = .next t) : t.ok = true := by
  have hs : ∀ (m : Dpc) (s : State), pickDpc s.bus.mapper = some m → s.ok = true → (s.setMapper (.dpc
    (m.select b))).ok = true := by
    intro m s hm h; apply setMapper_ok h; obtain ⟨_, b2, b3⟩ := pickDpc_ok hm h; exact (Dpc.ok_iff _ _).2 ⟨hb, b2, b3⟩
  exact cartAccess_ok (fun m s hm h => romByte_ok _ (hs m s hm h)) (fun m d s hm h => hs m s hm h) h e

theorem dpcRng_ok {s : State} {m : Dpc} (f : Dpc → Dpc) (hf : (f m).bank = m.bank ∧ (f m).ptr = m.ptr ∧
    (f m).oscTicks = m.oscTicks) (hm : pickDpc s.bus.mapper = some m) (h : s.ok = true) : (s.setMapper (.dpc
      (f m))).ok = true := by
  apply setMapper_ok h; obtain ⟨b1, b2, b3⟩ := pickDpc_ok hm h; rw [Dpc.ok_iff, hf.1, hf.2.1, hf.2.2]; exact ⟨b1,
    b2, b3⟩

theorem variantEvent_ok {α : Type} {pick : Mapper → Option α} {f : α → State → State} (hf : ∀ m s,
    pick s.bus.mapper = some m → s.ok = true → (f m s).ok = true) {s t : State} (h : s.ok = true) (e
      : variantEvent pick f s = .next t) : t.ok = true := by
  unfold variantEvent at e; split at e
  · contradiction
  · split at e
    · contradiction
    · rename_i m hm; simp at e; subst e; exact hf m s hm h

/-- The saved state of a state in range is in range, with its image. -/
theorem saved_ok {s : State} (h : s.ok = true) : (saved s).ok s.image = true := by
  rw [State.ok_iff] at h
  obtain ⟨h1, h2, h3, h4, h5, h6, h7, h8⟩ := h
  simp only [Snapshot.ok, Bool.and_eq_true]
  exact ⟨⟨⟨⟨⟨⟨⟨h1, h3⟩, h4⟩, h5⟩, h6⟩, h7⟩, h2⟩, h8⟩

theorem loadCurrent_ok {snap : Snapshot} {image : Image} {s : State} (hs : snap.ok image = true) (h : s.ok = true) :
    (loadCurrent snap image s).ok = true := by
  unfold loadCurrent
  split
  · exact h
  · rename_i m e
    simp only [Snapshot.ok, e, SavedMapper.ok, Bool.and_eq_true] at hs
    obtain ⟨⟨⟨⟨⟨⟨⟨h1, h3⟩, h4⟩, h5⟩, h6⟩, h7⟩, h2⟩, h8⟩ := hs
    exact (State.ok_iff _).2 ⟨h1, h2, h3, h4, h5, h6, h7, h8⟩

/-- A load keeps the invariant if the request that asked for it was in range. -/
theorem loadSnapshot_ok {code : BitVec 8} {snap : Snapshot} {image : Image} {s : State}
    (hr : Request.ok (.event code (.snapshot snap image)) = true) (h : s.ok = true) :
    (loadSnapshot snap image s).ok = true := by
  simp only [Request.ok, Bool.and_eq_true, Bool.or_eq_true, decide_eq_true_eq] at hr
  unfold loadSnapshot currentSnapshot
  split
  · exact h
  · rename_i h1
    by_cases h2 : snap.version = Config.snapVersion
    · simp only [h2, if_true]
      exact loadCurrent_ok hr.1 h
    · simp only [h2, if_false]
      cases hm : Config.migrate snap with
      | none => exact h
      | some r =>
        rw [hm] at hr
        exact loadCurrent_ok (hr.2.resolve_left (by omega)) h

/-- A state at power-on is in range if its image is. -/
theorem freshState_ok {image : Image} (format : TvFormat) (mode0 mode1 : ControllerMode) (s : State)
    (h : image.ok = true) : (freshState image format mode0 mode1 s).ok = true :=
  (State.ok_iff _).2 ⟨rfl, rfl, rfl, rfl, rfl, rfl, rfl, h⟩

end Sys2Proof.Machine
end

