-- ==== Sys2Proof/Laws/PerInstr.lean ====
section
/-! SUPPORT. Statements about every operation, one lemma per constructor. `RoundTrip`: the decoder reads the request of a
well-formed operation as that operation, every operand kept. -/

namespace Sys2Proof.Laws.RoundTrip

open Sys2Proof.Machine

/-- Decoding the request of a well-formed operation gives it back, under every tag. -/
def Statement (i : Instr) : Prop := ∀ tag, i.wellFormed tag = true → decode tag (encode i) = some i

/-! ## The decoder by region -/

theorem decode_tiaWrite {tag : Tag} {addr : Addr} {d : Byte} {k : Nat} (h : tiaWriteAt tag addr k = true) :
    decode tag (.write addr d) = some (tiaWriteRow k addr d) := by
  simp only [tiaWriteAt, Bool.and_eq_true, beq_iff_eq, Bool.not_eq_true'] at h
  simp [decode, decodeBus, decodeTiaWrite, h.1.1, h.1.2, h.2]

theorem decode_tiaRead {tag : Tag} {addr : Addr} {k : Nat} (h : tiaReadAt addr k = true) :
    decode tag (.read addr) = some (tiaReadRow k addr) := by
  simp only [tiaReadAt, Bool.and_eq_true, beq_iff_eq] at h
  simp [decode, decodeBus, decodeTiaRead, h.1, h.2]

theorem decode_ram {tag : Tag} {addr : Addr} (acc : Access) (h : (region addr == .ram) = true) :
    decode tag (busRequest addr acc) = some (decodeRam addr acc) := by
  simp only [beq_iff_eq] at h
  cases acc <;> simp [decode, busRequest, decodeBus, h]

theorem decode_io {tag : Tag} {addr : Addr} (acc : Access) (h : region addr = .io) :
    decode tag (busRequest addr acc) = some (decodeIo addr acc) := by
  cases acc <;> simp [decode, busRequest, decodeBus, h]

theorem decode_portRead {tag : Tag} {addr : Addr} {k : Nat} (h : portAt addr k = true) :
    decode tag (.read addr) = some (portReadRow k addr) := by
  simp only [portAt, Bool.and_eq_true, beq_iff_eq] at h
  rw [show Request.read addr = busRequest addr .rd from rfl, decode_io .rd h.1.1]
  simp only [decodeIo, h.1.2, h.2, if_true]

theorem decode_portWrite {tag : Tag} {addr : Addr} {d : Byte} {k : Nat} (h : portAt addr k = true) :
    decode tag (.write addr d) = some (portWriteRow k addr d) := by
  simp only [portAt, Bool.and_eq_true, beq_iff_eq] at h
  rw [show Request.write addr d = busRequest addr (.wr d) from rfl, decode_io (.wr d) h.1.1]
  simp only [decodeIo, h.1.2, h.2, if_true]

theorem decode_timerRead {tag : Tag} {addr : Addr} {b : Bool} (h : timerReadAt addr b = true) :
    decode tag (.read addr) = some (if b then .timint addr else .intim addr) := by
  simp only [timerReadAt, Bool.and_eq_true, beq_iff_eq] at h
  rw [show Request.read addr = busRequest addr .rd from rfl, decode_io .rd h.1.1]
  simp only [decodeIo, h.1.2, h.2]
  cases b <;> rfl

theorem decode_timerWrite {tag : Tag} {addr : Addr} {d : Byte} {k : Nat} (h : timerWriteAt addr k = true) :
    decode tag (.write addr d) = some (timerWriteRow k addr d) := by
  simp only [timerWriteAt, Bool.and_eq_true, beq_iff_eq] at h
  rw [show Request.write addr d = busRequest addr (.wr d) from rfl, decode_io (.wr d) h.1.1.1]
  simp only [decodeIo, h.1.1.2, h.1.2, h.2, if_true]
  rfl

theorem decode_edge {tag : Tag} {addr : Addr} {d : Byte} (h : edgeAt addr = true) :
    decode tag (.write addr d) = some (.edgectl addr d) := by
  simp only [edgeAt, Bool.and_eq_true, beq_iff_eq, Bool.not_eq_true'] at h
  rw [show Request.write addr d = busRequest addr (.wr d) from rfl, decode_io (.wr d) h.1.1]
  simp only [decodeIo, h.1.2, h.2]
  rfl

theorem decode_cart {tag t : Tag} {addr : Addr} (acc : Access) (h : cartAt tag t addr = true) :
    decode tag (busRequest addr acc) = some (decodeCart t addr acc) := by
  simp only [cartAt, Bool.and_eq_true, beq_iff_eq] at h
  cases acc <;> simp [decode, busRequest, decodeBus, h.1, h.2]

theorem decodeDpc_read {addr : Addr} {f : Nat} (h : dpcReadAt addr f = true) :
    decodeDpc addr .rd = dpcReadRow f addr := by
  simp only [dpcReadAt, Bool.and_eq_true, beq_iff_eq, decide_eq_true_eq] at h
  have h1 : a13 addr ≠ 0x1FF8 := by omega
  have h2 : a13 addr ≠ 0x1FF9 := by omega
  simp [decodeDpc, h.1, h1, h2, h.2]

theorem decodeDpc_write {addr : Addr} {d : Byte} {f : Nat} (h : dpcWriteAt addr f = true) :
    decodeDpc addr (.wr d) = dpcWriteRow f addr d := by
  simp only [dpcWriteAt, within, Bool.and_eq_true, beq_iff_eq, decide_eq_true_eq] at h
  have h1 : a13 addr ≠ 0x1FF8 := by omega
  have h2 : a13 addr ≠ 0x1FF9 := by omega
  have h3 : ¬ a13 addr ≤ 0x103F := by omega
  simp [decodeDpc, h.1.2, h1, h2, h3, h.2]

/-! ## One lemma per constructor -/

theorem vsync (addr : Addr) (d : Byte) : Statement (.vsync addr d) := fun _ h => decode_tiaWrite h

theorem vblank (addr : Addr) (d : Byte) : Statement (.vblank addr d) := fun _ h => decode_tiaWrite h

theorem wsync (addr : Addr) (d : Byte) : Statement (.wsync addr d) := fun _ h => decode_tiaWrite h

theorem rsync (addr : Addr) (d : Byte) : Statement (.rsync addr d) := fun _ h => decode_tiaWrite h

theorem nusiz0 (addr : Addr) (d : Byte) : Statement (.nusiz0 addr d) := fun _ h => decode_tiaWrite h

theorem nusiz1 (addr : Addr) (d : Byte) : Statement (.nusiz1 addr d) := fun _ h => decode_tiaWrite h

theorem colup0 (addr : Addr) (d : Byte) : Statement (.colup0 addr d) := fun _ h => decode_tiaWrite h

theorem colup1 (addr : Addr) (d : Byte) : Statement (.colup1 addr d) := fun _ h => decode_tiaWrite h

theorem colupf (addr : Addr) (d : Byte) : Statement (.colupf addr d) := fun _ h => decode_tiaWrite h

theorem colubk (addr : Addr) (d : Byte) : Statement (.colubk addr d) := fun _ h => decode_tiaWrite h

theorem ctrlpf (addr : Addr) (d : Byte) : Statement (.ctrlpf addr d) := fun _ h => decode_tiaWrite h

theorem refp0 (addr : Addr) (d : Byte) : Statement (.refp0 addr d) := fun _ h => decode_tiaWrite h

theorem refp1 (addr : Addr) (d : Byte) : Statement (.refp1 addr d) := fun _ h => decode_tiaWrite h

theorem pf0 (addr : Addr) (d : Byte) : Statement (.pf0 addr d) := fun _ h => decode_tiaWrite h

theorem pf1 (addr : Addr) (d : Byte) : Statement (.pf1 addr d) := fun _ h => decode_tiaWrite h

theorem pf2 (addr : Addr) (d : Byte) : Statement (.pf2 addr d) := fun _ h => decode_tiaWrite h

theorem resp0 (addr : Addr) (d : Byte) : Statement (.resp0 addr d) := fun _ h => decode_tiaWrite h

theorem resp1 (addr : Addr) (d : Byte) : Statement (.resp1 addr d) := fun _ h => decode_tiaWrite h

theorem resm0 (addr : Addr) (d : Byte) : Statement (.resm0 addr d) := fun _ h => decode_tiaWrite h

theorem resm1 (addr : Addr) (d : Byte) : Statement (.resm1 addr d) := fun _ h => decode_tiaWrite h

theorem resbl (addr : Addr) (d : Byte) : Statement (.resbl addr d) := fun _ h => decode_tiaWrite h

theorem audc0 (addr : Addr) (d : Byte) : Statement (.audc0 addr d) := fun _ h => decode_tiaWrite h

theorem audc1 (addr : Addr) (d : Byte) : Statement (.audc1 addr d) := fun _ h => decode_tiaWrite h

theorem audf0 (addr : Addr) (d : Byte) : Statement (.audf0 addr d) := fun _ h => decode_tiaWrite h

theorem audf1 (addr : Addr) (d : Byte) : Statement (.audf1 addr d) := fun _ h => decode_tiaWrite h

theorem audv0 (addr : Addr) (d : Byte) : Statement (.audv0 addr d) := fun _ h => decode_tiaWrite h

theorem audv1 (addr : Addr) (d : Byte) : Statement (.audv1 addr d) := fun _ h => decode_tiaWrite h

theorem grp0 (addr : Addr) (d : Byte) : Statement (.grp0 addr d) := fun _ h => decode_tiaWrite h

theorem grp1 (addr : Addr) (d : Byte) : Statement (.grp1 addr d) := fun _ h => decode_tiaWrite h

theorem enam0 (addr : Addr) (d : Byte) : Statement (.enam0 addr d) := fun _ h => decode_tiaWrite h

theorem enam1 (addr : Addr) (d : Byte) : Statement (.enam1 addr d) := fun _ h => decode_tiaWrite h

theorem enabl (addr : Addr) (d : Byte) : Statement (.enabl addr d) := fun _ h => decode_tiaWrite h

theorem hmp0 (addr : Addr) (d : Byte) : Statement (.hmp0 addr d) := fun _ h => decode_tiaWrite h

theorem hmp1 (addr : Addr) (d : Byte) : Statement (.hmp1 addr d) := fun _ h => decode_tiaWrite h

theorem hmm0 (addr : Addr) (d : Byte) : Statement (.hmm0 addr d) := fun _ h => decode_tiaWrite h

theorem hmm1 (addr : Addr) (d : Byte) : Statement (.hmm1 addr d) := fun _ h => decode_tiaWrite h

theorem hmbl (addr : Addr) (d : Byte) : Statement (.hmbl addr d) := fun _ h => decode_tiaWrite h

theorem vdelp0 (addr : Addr) (d : Byte) : Statement (.vdelp0 addr d) := fun _ h => decode_tiaWrite h

theorem vdelp1 (addr : Addr) (d : Byte) : Statement (.vdelp1 addr d) := fun _ h => decode_tiaWrite h

theorem vdelbl (addr : Addr) (d : Byte) : Statement (.vdelbl addr d) := fun _ h => decode_tiaWrite h

theorem resmp0 (addr : Addr) (d : Byte) : Statement (.resmp0 addr d) := fun _ h => decode_tiaWrite h

theorem resmp1 (addr : Addr) (d : Byte) : Statement (.resmp1 addr d) := fun _ h => decode_tiaWrite h

theorem hmove (addr : Addr) (d : Byte) : Statement (.hmove addr d) := fun _ h => decode_tiaWrite h

theorem hmclr (addr : Addr) (d : Byte) : Statement (.hmclr addr d) := fun _ h => decode_tiaWrite h

theorem cxclr (addr : Addr) (d : Byte) : Statement (.cxclr addr d) := fun _ h => decode_tiaWrite h

theorem tiaw2D (addr : Addr) (d : Byte) : Statement (.tiaw2D addr d) := fun _ h => decode_tiaWrite h

theorem tiaw2E (addr : Addr) (d : Byte) : Statement (.tiaw2E addr d) := fun _ h => decode_tiaWrite h

theorem tiaw2F (addr : Addr) (d : Byte) : Statement (.tiaw2F addr d) := fun _ h => decode_tiaWrite h

theorem tiaw30 (addr : Addr) (d : Byte) : Statement (.tiaw30 addr d) := fun _ h => decode_tiaWrite h

theorem tiaw31 (addr : Addr) (d : Byte) : Statement (.tiaw31 addr d) := fun _ h => decode_tiaWrite h

theorem tiaw32 (addr : Addr) (d : Byte) : Statement (.tiaw32 addr d) := fun _ h => decode_tiaWrite h

theorem tiaw33 (addr : Addr) (d : Byte) : Statement (.tiaw33 addr d) := fun _ h => decode_tiaWrite h

theorem tiaw34 (addr : Addr) (d : Byte) : Statement (.tiaw34 addr d) := fun _ h => decode_tiaWrite h

theorem tiaw35 (addr : Addr) (d : Byte) : Statement (.tiaw35 addr d) := fun _ h => decode_tiaWrite h

theorem tiaw36 (addr : Addr) (d : Byte) : Statement (.tiaw36 addr d) := fun _ h => decode_tiaWrite h

theorem tiaw37 (addr : Addr) (d : Byte) : Statement (.tiaw37 addr d) := fun _ h => decode_tiaWrite h

theorem tiaw38 (addr : Addr) (d : Byte) : Statement (.tiaw38 addr d) := fun _ h => decode_tiaWrite h

theorem tiaw39 (addr : Addr) (d : Byte) : Statement (.tiaw39 addr d) := fun _ h => decode_tiaWrite h

theorem tiaw3A (addr : Addr) (d : Byte) : Statement (.tiaw3A addr d) := fun _ h => decode_tiaWrite h

theorem tiaw3B (addr : Addr) (d : Byte) : Statement (.tiaw3B addr d) := fun _ h => decode_tiaWrite h

theorem tiaw3C (addr : Addr) (d : Byte) : Statement (.tiaw3C addr d) := fun _ h => decode_tiaWrite h

theorem tiaw3D (addr : Addr) (d : Byte) : Statement (.tiaw3D addr d) := fun _ h => decode_tiaWrite h

theorem tiaw3E (addr : Addr) (d : Byte) : Statement (.tiaw3E addr d) := fun _ h => decode_tiaWrite h

theorem tiaw3F (addr : Addr) (d : Byte) : Statement (.tiaw3F addr d) := fun _ h => decode_tiaWrite h

theorem cxm0p (addr : Addr) : Statement (.cxm0p addr) := fun _ h => decode_tiaRead h

theorem cxm1p (addr : Addr) : Statement (.cxm1p addr) := fun _ h => decode_tiaRead h

theorem cxp0fb (addr : Addr) : Statement (.cxp0fb addr) := fun _ h => decode_tiaRead h

theorem cxp1fb (addr : Addr) : Statement (.cxp1fb addr) := fun _ h => decode_tiaRead h

theorem cxm0fb (addr : Addr) : Statement (.cxm0fb addr) := fun _ h => decode_tiaRead h

theorem cxm1fb (addr : Addr) : Statement (.cxm1fb addr) := fun _ h => decode_tiaRead h

theorem cxblpf (addr : Addr) : Statement (.cxblpf addr) := fun _ h => decode_tiaRead h

theorem cxppmm (addr : Addr) : Statement (.cxppmm addr) := fun _ h => decode_tiaRead h

theorem inpt0 (addr : Addr) : Statement (.inpt0 addr) := fun _ h => decode_tiaRead h

theorem inpt1 (addr : Addr) : Statement (.inpt1 addr) := fun _ h => decode_tiaRead h

theorem inpt2 (addr : Addr) : Statement (.inpt2 addr) := fun _ h => decode_tiaRead h

theorem inpt3 (addr : Addr) : Statement (.inpt3 addr) := fun _ h => decode_tiaRead h

theorem inpt4 (addr : Addr) : Statement (.inpt4 addr) := fun _ h => decode_tiaRead h

theorem inpt5 (addr : Addr) : Statement (.inpt5 addr) := fun _ h => decode_tiaRead h

theorem tiarE (addr : Addr) : Statement (.tiarE addr) := fun _ h => decode_tiaRead h

theorem tiarF (addr : Addr) : Statement (.tiarF addr) := fun _ h => decode_tiaRead h

theorem ramRd (addr : Addr) : Statement (.ramRd addr) := fun _ h => decode_ram .rd h

theorem ramWr (addr : Addr) (d : Byte) : Statement (.ramWr addr d) := fun _ h => decode_ram (.wr d) h

theorem swchaRd (addr : Addr) : Statement (.swchaRd addr) := fun _ h => decode_portRead h

theorem swchaWr (addr : Addr) (d : Byte) : Statement (.swchaWr addr d) := fun _ h => decode_portWrite h

theorem swacntRd (addr : Addr) : Statement (.swacntRd addr) := fun _ h => decode_portRead h

theorem swacntWr (addr : Addr) (d : Byte) : Statement (.swacntWr addr d) := fun _ h => decode_portWrite h

theorem swchbRd (addr : Addr) : Statement (.swchbRd addr) := fun _ h => decode_portRead h

theorem swchbWr (addr : Addr) (d : Byte) : Statement (.swchbWr addr d) := fun _ h => decode_portWrite h

theorem swbcntRd (addr : Addr) : Statement (.swbcntRd addr) := fun _ h => decode_portRead h

theorem swbcntWr (addr : Addr) (d : Byte) : Statement (.swbcntWr addr d) := fun _ h => decode_portWrite h

theorem intim (addr : Addr) : Statement (.intim addr) := fun _ h => decode_timerRead h

theorem timint (addr : Addr) : Statement (.timint addr) := fun _ h => decode_timerRead h

theorem tim1t (addr : Addr) (d : Byte) : Statement (.tim1t addr d) := fun _ h => decode_timerWrite h

theorem tim8t (addr : Addr) (d : Byte) : Statement (.tim8t addr d) := fun _ h => decode_timerWrite h

theorem tim64t (addr : Addr) (d : Byte) : Statement (.tim64t addr d) := fun _ h => decode_timerWrite h

theorem t1024t (addr : Addr) (d : Byte) : Statement (.t1024t addr d) := fun _ h => decode_timerWrite h

theorem edgectl (addr : Addr) (d : Byte) : Statement (.edgectl addr d) := fun _ h => decode_edge h

theorem unkRom (addr : Addr) : Statement (.unkRom addr) := fun _ h => decode_cart .rd h

theorem unkWr (addr : Addr) (d : Byte) : Statement (.unkWr addr d) := fun _ h => decode_cart (.wr d) h

theorem f8Bank0 (addr : Addr) (acc : Access) : Statement (.f8Bank0 addr acc) := by
  intro tag (h : (cartAt tag .f8 addr && a13 addr == 0x1FF8) = true)
  simp only [Bool.and_eq_true, beq_iff_eq] at h
  show decode tag (busRequest addr acc) = some _
  rw [decode_cart acc h.1]
  simp (disch := omega) only [decodeCart, decodeF8, within_iff, if_neg, if_pos]

theorem f8Bank1 (addr : Addr) (acc : Access) : Statement (.f8Bank1 addr acc) := by
  intro tag (h : (cartAt tag .f8 addr && a13 addr == 0x1FF9) = true)
  simp only [Bool.and_eq_true, beq_iff_eq] at h
  show decode tag (busRequest addr acc) = some _
  rw [decode_cart acc h.1]
  simp (disch := omega) only [decodeCart, decodeF8, within_iff, if_neg, if_pos]

theorem f8Scw (addr : Addr) (d : Byte) : Statement (.f8Scw addr d) := by
  intro tag (h : (cartAt tag .f8 addr && decide (a13 addr ≤ 0x107F)) = true)
  simp only [Bool.and_eq_true, decide_eq_true_eq] at h
  show decode tag (busRequest addr (.wr d)) = some _
  rw [decode_cart (.wr d) h.1]
  simp (disch := omega) only [decodeCart, decodeF8, if_neg, if_pos]

theorem f8Scr (addr : Addr) : Statement (.f8Scr addr) := by
  intro tag (h : (cartAt tag .f8 addr && within 0x1080 0x10FF (a13 addr)) = true)
  simp only [Bool.and_eq_true, within_iff] at h
  show decode tag (busRequest addr .rd) = some _
  rw [decode_cart .rd h.1]
  simp (disch := omega) only [decodeCart, decodeF8, within_iff, if_neg, if_pos]

theorem f8Rom (addr : Addr) : Statement (.f8Rom addr) := by
  intro tag (h : (cartAt tag .f8 addr && !StdKind.f8.hotspot (a13 addr) && !within 0x1080 0x10FF (a13 addr)) = true)
  simp only [Bool.and_eq_true, Bool.not_eq_true', within_iff, ← Bool.not_eq_true, hotspot_f8] at h
  show decode tag (busRequest addr .rd) = some _
  rw [decode_cart .rd h.1.1]
  simp (disch := omega) only [decodeCart, decodeF8, within_iff, if_neg]

theorem f8Wr (addr : Addr) (d : Byte) : Statement (.f8Wr addr d) := by
  intro tag (h : (cartAt tag .f8 addr && !StdKind.f8.hotspot (a13 addr) && decide (0x1080 ≤ a13 addr)) = true)
  simp only [Bool.and_eq_true, decide_eq_true_eq, Bool.not_eq_true', ← Bool.not_eq_true, hotspot_f8] at h
  show decode tag (busRequest addr (.wr d)) = some _
  rw [decode_cart (.wr d) h.1.1]
  simp (disch := omega) only [decodeCart, decodeF8, if_neg]

theorem f6Bank0 (addr : Addr) (acc : Access) : Statement (.f6Bank0 addr acc) := by
  intro tag (h : (cartAt tag .f6 addr && a13 addr == 0x1FF6) = true)
  simp only [Bool.and_eq_true, beq_iff_eq] at h
  show decode tag (busRequest addr acc) = some _
  rw [decode_cart acc h.1]
  simp (disch := omega) only [decodeCart, decodeF6, within_iff, if_neg, if_pos]

theorem f6Bank1 (addr : Addr) (acc : Access) : Statement (.f6Bank1 addr acc) := by
  intro tag (h : (cartAt tag .f6 addr && a13 addr == 0x1FF7) = true)
  simp only [Bool.and_eq_true, beq_iff_eq] at h
  show decode tag (busRequest addr acc) = some _
  rw [decode_cart acc h.1]
  simp (disch := omega) only [decodeCart, decodeF6, within_iff, if_neg, if_pos]

theorem f6Bank2 (addr : Addr) (acc : Access) : Statement (.f6Bank2 addr acc) := by
  intro tag (h : (cartAt tag .f6 addr && a13 addr == 0x1FF8) = true)
  simp only [Bool.and_eq_true, beq_iff_eq] at h
  show decode tag (busRequest addr acc) = some _
  rw [decode_cart acc h.1]
  simp (disch := omega) only [decodeCart, decodeF6, within_iff, if_neg, if_pos]

theorem f6Bank3 (addr : Addr) (acc : Access) : Statement (.f6Bank3 addr acc) := by
  intro tag (h : (cartAt tag .f6 addr && a13 addr == 0x1FF9) = true)
  simp only [Bool.and_eq_true, beq_iff_eq] at h
  show decode tag (busRequest addr acc) = some _
  rw [decode_cart acc h.1]
  simp (disch := omega) only [decodeCart, decodeF6, within_iff, if_neg, if_pos]

theorem f6Scw (addr : Addr) (d : Byte) : Statement (.f6Scw addr d) := by
  intro tag (h : (cartAt tag .f6 addr && decide (a13 addr ≤ 0x107F)) = true)
  simp only [Bool.and_eq_true, decide_eq_true_eq] at h
  show decode tag (busRequest addr (.wr d)) = some _
  rw [decode_cart (.wr d) h.1]
  simp (disch := omega) only [decodeCart, decodeF6, if_neg, if_pos]

theorem f6Scr (addr : Addr) : Statement (.f6Scr addr) := by
  intro tag (h : (cartAt tag .f6 addr && within 0x1080 0x10FF (a13 addr)) = true)
  simp only [Bool.and_eq_true, within_iff] at h
  show decode tag (busRequest addr .rd) = some _
  rw [decode_cart .rd h.1]
  simp (disch := omega) only [decodeCart, decodeF6, within_iff, if_neg, if_pos]

theorem f6Rom (addr : Addr) : Statement (.f6Rom addr) := by
  intro tag (h : (cartAt tag .f6 addr && !StdKind.f6.hotspot (a13 addr) && !within 0x1080 0x10FF (a13 addr)) = true)
  simp only [Bool.and_eq_true, Bool.not_eq_true', within_iff, ← Bool.not_eq_true, hotspot_f6] at h
  show decode tag (busRequest addr .rd) = some _
  rw [decode_cart .rd h.1.1]
  simp (disch := omega) only [decodeCart, decodeF6, within_iff, if_neg]

theorem f6Wr (addr : Addr) (d : Byte) : Statement (.f6Wr addr d) := by
  intro tag (h : (cartAt tag .f6 addr && !StdKind.f6.hotspot (a13 addr) && decide (0x1080 ≤ a13 addr)) = true)
  simp only [Bool.and_eq_true, decide_eq_true_eq, Bool.not_eq_true', ← Bool.not_eq_true, hotspot_f6] at h
  show decode tag (busRequest addr (.wr d)) = some _
  rw [decode_cart (.wr d) h.1.1]
  simp (disch := omega) only [decodeCart, decodeF6, if_neg]

theorem f4Bank0 (addr : Addr) (acc : Access) : Statement (.f4Bank0 addr acc) := by
  intro tag (h : (cartAt tag .f4 addr && a13 addr == 0x1FF4) = true)
  simp only [Bool.and_eq_true, beq_iff_eq] at h
  show decode tag (busRequest addr acc) = some _
  rw [decode_cart acc h.1]
  simp (disch := omega) only [decodeCart, decodeF4, within_iff, if_neg, if_pos]

theorem f4Bank1 (addr : Addr) (acc : Access) : Statement (.f4Bank1 addr acc) := by
  intro tag (h : (cartAt tag .f4 addr && a13 addr == 0x1FF5) = true)
  simp only [Bool.and_eq_true, beq_iff_eq] at h
  show decode tag (busRequest addr acc) = some _
  rw [decode_cart acc h.1]
  simp (disch := omega) only [decodeCart, decodeF4, within_iff, if_neg, if_pos]

theorem f4Bank2 (addr : Addr) (acc : Access) : Statement (.f4Bank2 addr acc) := by
  intro tag (h : (cartAt tag .f4 addr && a13 addr == 0x1FF6) = true)
  simp only [Bool.and_eq_true, beq_iff_eq] at h
  show decode tag (busRequest addr acc) = some _
  rw [decode_cart acc h.1]
  simp (disch := omega) only [decodeCart, decodeF4, within_iff, if_neg, if_pos]

theorem f4Bank3 (addr : Addr) (acc : Access) : Statement (.f4Bank3 addr acc) := by
  intro tag (h : (cartAt tag .f4 addr && a13 addr == 0x1FF7) = true)
  simp only [Bool.and_eq_true, beq_iff_eq] at h
  show decode tag (busRequest addr acc) = some _
  rw [decode_cart acc h.1]
  simp (disch := omega) only [decodeCart, decodeF4, within_iff, if_neg, if_pos]

theorem f4Bank4 (addr : Addr) (acc : Access) : Statement (.f4Bank4 addr acc) := by
  intro tag (h : (cartAt tag .f4 addr && a13 addr == 0x1FF8) = true)
  simp only [Bool.and_eq_true, beq_iff_eq] at h
  show decode tag (busRequest addr acc) = some _
  rw [decode_cart acc h.1]
  simp (disch := omega) only [decodeCart, decodeF4, within_iff, if_neg, if_pos]

theorem f4Bank5 (addr : Addr) (acc : Access) : Statement (.f4Bank5 addr acc) := by
  intro tag (h : (cartAt tag .f4 addr && a13 addr == 0x1FF9) = true)
  simp only [Bool.and_eq_true, beq_iff_eq] at h
  show decode tag (busRequest addr acc) = some _
  rw [decode_cart acc h.1]
  simp (disch := omega) only [decodeCart, decodeF4, within_iff, if_neg, if_pos]

theorem f4Bank6 (addr : Addr) (acc : Access) : Statement (.f4Bank6 addr acc) := by
  intro tag (h : (cartAt tag .f4 addr && a13 addr == 0x1FFA) = true)
  simp only [Bool.and_eq_true, beq_iff_eq] at h
  show decode tag (busRequest addr acc) = some _
  rw [decode_cart acc h.1]
  simp (disch := omega) only [decodeCart, decodeF4, within_iff, if_neg, if_pos]

theorem f4Bank7 (addr : Addr) (acc : Access) : Statement (.f4Bank7 addr acc) := by
  intro tag (h : (cartAt tag .f4 addr && a13 addr == 0x1FFB) = true)
  simp only [Bool.and_eq_true, beq_iff_eq] at h
  show decode tag (busRequest addr acc) = some _
  rw [decode_cart acc h.1]
  simp (disch := omega) only [decodeCart, decodeF4, within_iff, if_neg, if_pos]

theorem f4Scw (addr : Addr) (d : Byte) : Statement (.f4Scw addr d) := by
  intro tag (h : (cartAt tag .f4 addr && decide (a13 addr ≤ 0x107F)) = true)
  simp only [Bool.and_eq_true, decide_eq_true_eq] at h
  show decode tag (busRequest addr (.wr d)) = some _
  rw [decode_cart (.wr d) h.1]
  simp (disch := omega) only [decodeCart, decodeF4, if_neg, if_pos]

theorem f4Scr (addr : Addr) : Statement (.f4Scr addr) := by
  intro tag (h : (cartAt tag .f4 addr && within 0x1080 0x10FF (a13 addr)) = true)
  simp only [Bool.and_eq_true, within_iff] at h
  show decode tag (busRequest addr .rd) = some _
  rw [decode_cart .rd h.1]
  simp (disch := omega) only [decodeCart, decodeF4, within_iff, if_neg, if_pos]

theorem f4Rom (addr : Addr) : Statement (.f4Rom addr) := by
  intro tag (h : (cartAt tag .f4 addr && !StdKind.f4.hotspot (a13 addr) && !within 0x1080 0x10FF (a13 addr)) = true)
  simp only [Bool.and_eq_true, Bool.not_eq_true', within_iff, ← Bool.not_eq_true, hotspot_f4] at h
  show decode tag (busRequest addr .rd) = some _
  rw [decode_cart .rd h.1.1]
  simp (disch := omega) only [decodeCart, decodeF4, within_iff, if_neg]

theorem f4Wr (addr : Addr) (d : Byte) : Statement (.f4Wr addr d) := by
  intro tag (h : (cartAt tag .f4 addr && !StdKind.f4.hotspot (a13 addr) && decide (0x1080 ≤ a13 addr)) = true)
  simp only [Bool.and_eq_true, decide_eq_true_eq, Bool.not_eq_true', ← Bool.not_eq_true, hotspot_f4] at h
  show decode tag (busRequest addr (.wr d)) = some _
  rw [decode_cart (.wr d) h.1.1]
  simp (disch := omega) only [decodeCart, decodeF4, if_neg]

theorem faBank0 (addr : Addr) (acc : Access) : Statement (.faBank0 addr acc) := by
  intro tag (h : (cartAt tag .fa addr && a13 addr == 0x1FF8) = true)
  simp only [Bool.and_eq_true, beq_iff_eq] at h
  show decode tag (busRequest addr acc) = some _
  rw [decode_cart acc h.1]
  simp (disch := omega) only [decodeCart, decodeFA, if_neg, if_pos]

theorem faBank1 (addr : Addr) (acc : Access) : Statement (.faBank1 addr acc) := by
  intro tag (h : (cartAt tag .fa addr && a13 addr == 0x1FF9) = true)
  simp only [Bool.and_eq_true, beq_iff_eq] at h
  show decode tag (busRequest addr acc) = some _
  rw [decode_cart acc h.1]
  simp (disch := omega) only [decodeCart, decodeFA, if_neg, if_pos]

theorem faBank2 (addr : Addr) (acc : Access) : Statement (.faBank2 addr acc) := by
  intro tag (h : (cartAt tag .fa addr && a13 addr == 0x1FFA) = true)
  simp only [Bool.and_eq_true, beq_iff_eq] at h
  show decode tag (busRequest addr acc) = some _
  rw [decode_cart acc h.1]
  simp (disch := omega) only [decodeCart, decodeFA, if_neg, if_pos]

theorem faRamw (addr : Addr) (acc : Access) : Statement (.faRamw addr acc) := by
  intro tag (h : (cartAt tag .fa addr && decide (a13 addr ≤ 0x10FF)) = true)
  simp only [Bool.and_eq_true, decide_eq_true_eq] at h
  show decode tag (busRequest addr acc) = some _
  rw [decode_cart acc h.1]
  simp (disch := omega) only [decodeCart, decodeFA, if_neg, if_pos]

theorem faRamr (addr : Addr) (acc : Access) : Statement (.faRamr addr acc) := by
  intro tag (h : (cartAt tag .fa addr && within 0x1100 0x11FF (a13 addr)) = true)
  simp only [Bool.and_eq_true, within_iff] at h
  show decode tag (busRequest addr acc) = some _
  rw [decode_cart acc h.1]
  simp (disch := omega) only [decodeCart, decodeFA, if_neg, if_pos]

theorem faRom (addr : Addr) (acc : Access) : Statement (.faRom addr acc) := by
  intro tag (h : (cartAt tag .fa addr && decide (0x1200 ≤ a13 addr) && !within 0x1FF8 0x1FFA (a13 addr)) = true)
  simp only [Bool.and_eq_true, decide_eq_true_eq, Bool.not_eq_true', within_eq_false] at h
  show decode tag (busRequest addr acc) = some _
  rw [decode_cart acc h.1.1]
  simp (disch := omega) only [decodeCart, decodeFA, if_neg]

theorem f0Next (addr : Addr) (acc : Access) : Statement (.f0Next addr acc) := by
  intro tag (h : (cartAt tag .f0 addr && a13 addr == 0x1FF0) = true)
  simp only [Bool.and_eq_true, beq_iff_eq] at h
  show decode tag (busRequest addr acc) = some _
  rw [decode_cart acc h.1]
  simp (disch := omega) only [decodeCart, decodeF0, if_pos]

theorem f0Rom (addr : Addr) (acc : Access) : Statement (.f0Rom addr acc) := by
  intro tag (h : (cartAt tag .f0 addr && a13 addr != 0x1FF0) = true)
  simp only [Bool.and_eq_true, bne_iff_ne, ne_eq] at h
  show decode tag (busRequest addr acc) = some _
  rw [decode_cart acc h.1]
  simp (disch := omega) only [decodeCart, decodeF0, if_neg]

theorem e0S0 (addr : Addr) (acc : Access) : Statement (.e0S0 addr acc) := by
  intro tag (h : (cartAt tag .e0 addr && within 0x1FE0 0x1FE7 (a13 addr)) = true)
  simp only [Bool.and_eq_true, within_iff] at h
  show decode tag (busRequest addr acc) = some _
  rw [decode_cart acc h.1]
  simp (disch := omega) only [decodeCart, decodeE0, within_iff, if_neg, if_pos]

theorem e0S1 (addr : Addr) (acc : Access) : Statement (.e0S1 addr acc) := by
  intro tag (h : (cartAt tag .e0 addr && within 0x1FE8 0x1FEF (a13 addr)) = true)
  simp only [Bool.and_eq_true, within_iff] at h
  show decode tag (busRequest addr acc) = some _
  rw [decode_cart acc h.1]
  simp (disch := omega) only [decodeCart, decodeE0, within_iff, if_neg, if_pos]

theorem e0S2 (addr : Addr) (acc : Access) : Statement (.e0S2 addr acc) := by
  intro tag (h : (cartAt tag .e0 addr && within 0x1FF0 0x1FF7 (a13 addr)) = true)
  simp only [Bool.and_eq_true, within_iff] at h
  show decode tag (busRequest addr acc) = some _
  rw [decode_cart acc h.1]
  simp (disch := omega) only [decodeCart, decodeE0, within_iff, if_neg, if_pos]

theorem e0Rom (addr : Addr) (acc : Access) : Statement (.e0Rom addr acc) := by
  intro tag (h : (cartAt tag .e0 addr && !within 0x1FE0 0x1FF7 (a13 addr)) = true)
  simp only [Bool.and_eq_true, Bool.not_eq_true', within_eq_false] at h
  show decode tag (busRequest addr acc) = some _
  rw [decode_cart acc h.1]
  simp (disch := omega) only [decodeCart, decodeE0, within_iff, if_neg]

theorem m3fBank (addr : Addr) (d : Byte) : Statement (.m3fBank addr d) := by
  intro tag (h : (tag == .m3f && region addr == .tia && lowTia addr) = true)
  simp only [Bool.and_eq_true, beq_iff_eq] at h
  show decode tag (.write addr d) = some _
  simp [decode, decodeBus, snooped, h.1.1, h.1.2, h.2]

theorem m3fRom (addr : Addr) (acc : Access) : Statement (.m3fRom addr acc) := fun _ h => decode_cart acc h

theorem feRom (addr : Addr) (acc : Access) : Statement (.feRom addr acc) := fun _ h => decode_cart acc h

theorem c0Ramr (addr : Addr) (acc : Access) : Statement (.c0Ramr addr acc) := by
  intro tag (h : (cartAt tag .c0 addr && decide (a13 addr ≤ 0x13FF)) = true)
  simp only [Bool.and_eq_true, decide_eq_true_eq] at h
  show decode tag (busRequest addr acc) = some _
  rw [decode_cart acc h.1]
  simp (disch := omega) only [decodeCart, decodeC0, if_neg, if_pos]

theorem c0Ramw (addr : Addr) (acc : Access) : Statement (.c0Ramw addr acc) := by
  intro tag (h : (cartAt tag .c0 addr && within 0x1400 0x17FF (a13 addr)) = true)
  simp only [Bool.and_eq_true, within_iff] at h
  show decode tag (busRequest addr acc) = some _
  rw [decode_cart acc h.1]
  simp (disch := omega) only [decodeCart, decodeC0, if_neg, if_pos]

theorem c0Rom (addr : Addr) (acc : Access) : Statement (.c0Rom addr acc) := by
  intro tag (h : (cartAt tag .c0 addr && decide (0x1800 ≤ a13 addr)) = true)
  simp only [Bool.and_eq_true, decide_eq_true_eq] at h
  show decode tag (busRequest addr acc) = some _
  rw [decode_cart acc h.1]
  simp (disch := omega) only [decodeCart, decodeC0, if_neg]

theorem e7Bank0 (addr : Addr) (acc : Access) : Statement (.e7Bank0 addr acc) := by
  intro tag (h : (cartAt tag .e7 addr && a13 addr == 0x1FE0) = true)
  simp only [Bool.and_eq_true, beq_iff_eq] at h
  show decode tag (busRequest addr acc) = some _
  rw [decode_cart acc h.1]
  simp (disch := omega) only [decodeCart, decodeE7, if_neg, if_pos]

theorem e7Bank1 (addr : Addr) (acc : Access) : Statement (.e7Bank1 addr acc) := by
  intro tag (h : (cartAt tag .e7 addr && a13 addr == 0x1FE1) = true)
  simp only [Bool.and_eq_true, beq_iff_eq] at h
  show decode tag (busRequest addr acc) = some _
  rw [decode_cart acc h.1]
  simp (disch := omega) only [decodeCart, decodeE7, if_neg, if_pos]

theorem e7Bank2 (addr : Addr) (acc : Access) : Statement (.e7Bank2 addr acc) := by
  intro tag (h : (cartAt tag .e7 addr && a13 addr == 0x1FE2) = true)
  simp only [Bool.and_eq_true, beq_iff_eq] at h
  show decode tag (busRequest addr acc) = some _
  rw [decode_cart acc h.1]
  simp (disch := omega) only [decodeCart, decodeE7, if_neg, if_pos]

theorem e7Bank3 (addr : Addr) (acc : Access) : Statement (.e7Bank3 addr acc) := by
  intro tag (h : (cartAt tag .e7 addr && a13 addr == 0x1FE3) = true)
  simp only [Bool.and_eq_true, beq_iff_eq] at h
  show decode tag (busRequest addr acc) = some _
  rw [decode_cart acc h.1]
  simp (disch := omega) only [decodeCart, decodeE7, if_neg, if_pos]

theorem e7Bank4 (addr : Addr) (acc : Access) : Statement (.e7Bank4 addr acc) := by
  intro tag (h : (cartAt tag .e7 addr && a13 addr == 0x1FE4) = true)
  simp only [Bool.and_eq_true, beq_iff_eq] at h
  show decode tag (busRequest addr acc) = some _
  rw [decode_cart acc h.1]
  simp (disch := omega) only [decodeCart, decodeE7, if_neg, if_pos]

theorem e7Bank5 (addr : Addr) (acc : Access) : Statement (.e7Bank5 addr acc) := by
  intro tag (h : (cartAt tag .e7 addr && a13 addr == 0x1FE5) = true)
  simp only [Bool.and_eq_true, beq_iff_eq] at h
  show decode tag (busRequest addr acc) = some _
  rw [decode_cart acc h.1]
  simp (disch := omega) only [decodeCart, decodeE7, if_neg, if_pos]

theorem e7Bank6 (addr : Addr) (acc : Access) : Statement (.e7Bank6 addr acc) := by
  intro tag (h : (cartAt tag .e7 addr && a13 addr == 0x1FE6) = true)
  simp only [Bool.and_eq_true, beq_iff_eq] at h
  show decode tag (busRequest addr acc) = some _
  rw [decode_cart acc h.1]
  simp (disch := omega) only [decodeCart, decodeE7, if_neg, if_pos]

theorem e7Ramon (addr : Addr) (acc : Access) : Statement (.e7Ramon addr acc) := by
  intro tag (h : (cartAt tag .e7 addr && a13 addr == 0x1FE7) = true)
  simp only [Bool.and_eq_true, beq_iff_eq] at h
  show decode tag (busRequest addr acc) = some _
  rw [decode_cart acc h.1]
  simp (disch := omega) only [decodeCart, decodeE7, if_neg, if_pos]

theorem e7Rbank0 (addr : Addr) (acc : Access) : Statement (.e7Rbank0 addr acc) := by
  intro tag (h : (cartAt tag .e7 addr && a13 addr == 0x1FE8) = true)
  simp only [Bool.and_eq_true, beq_iff_eq] at h
  show decode tag (busRequest addr acc) = some _
  rw [decode_cart acc h.1]
  simp (disch := omega) only [decodeCart, decodeE7, if_neg, if_pos]

theorem e7Rbank1 (addr : Addr) (acc : Access) : Statement (.e7Rbank1 addr acc) := by
  intro tag (h : (cartAt tag .e7 addr && a13 addr == 0x1FE9) = true)
  simp only [Bool.and_eq_true, beq_iff_eq] at h
  show decode tag (busRequest addr acc) = some _
  rw [decode_cart acc h.1]
  simp (disch := omega) only [decodeCart, decodeE7, if_neg, if_pos]

theorem e7Rbank2 (addr : Addr) (acc : Access) : Statement (.e7Rbank2 addr acc) := by
  intro tag (h : (cartAt tag .e7 addr && a13 addr == 0x1FEA) = true)
  simp only [Bool.and_eq_true, beq_iff_eq] at h
  show decode tag (busRequest addr acc) = some _
  rw [decode_cart acc h.1]
  simp (disch := omega) only [decodeCart, decodeE7, if_neg, if_pos]

theorem e7Rbank3 (addr : Addr) (acc : Access) : Statement (.e7Rbank3 addr acc) := by
  intro tag (h : (cartAt tag .e7 addr && a13 addr == 0x1FEB) = true)
  simp only [Bool.and_eq_true, beq_iff_eq] at h
  show decode tag (busRequest addr acc) = some _
  rw [decode_cart acc h.1]
  simp (disch := omega) only [decodeCart, decodeE7, if_neg, if_pos]

theorem e7LowRd (addr : Addr) : Statement (.e7LowRd addr) := by
  intro tag (h : (cartAt tag .e7 addr && decide (a13 addr ≤ 0x17FF)) = true)
  simp only [Bool.and_eq_true, decide_eq_true_eq] at h
  show decode tag (busRequest addr .rd) = some _
  rw [decode_cart .rd h.1]
  simp (disch := omega) only [decodeCart, decodeE7, if_neg, if_pos]

theorem e7LowWr (addr : Addr) (d : Byte) : Statement (.e7LowWr addr d) := by
  intro tag (h : (cartAt tag .e7 addr && decide (a13 addr ≤ 0x17FF)) = true)
  simp only [Bool.and_eq_true, decide_eq_true_eq] at h
  show decode tag (busRequest addr (.wr d)) = some _
  rw [decode_cart (.wr d) h.1]
  simp (disch := omega) only [decodeCart, decodeE7, if_neg, if_pos]

theorem e7R256w (addr : Addr) (acc : Access) : Statement (.e7R256w addr acc) := by
  intro tag (h : (cartAt tag .e7 addr && within 0x1800 0x18FF (a13 addr)) = true)
  simp only [Bool.and_eq_true, within_iff] at h
  show decode tag (busRequest addr acc) = some _
  rw [decode_cart acc h.1]
  simp (disch := omega) only [decodeCart, decodeE7, if_neg, if_pos]

theorem e7R256r (addr : Addr) (acc : Access) : Statement (.e7R256r addr acc) := by
  intro tag (h : (cartAt tag .e7 addr && within 0x1900 0x19FF (a13 addr)) = true)
  simp only [Bool.and_eq_true, within_iff] at h
  show decode tag (busRequest addr acc) = some _
  rw [decode_cart acc h.1]
  simp (disch := omega) only [decodeCart, decodeE7, if_neg, if_pos]

theorem e7Fixed (addr : Addr) (acc : Access) : Statement (.e7Fixed addr acc) := by
  intro tag (h : (cartAt tag .e7 addr && decide (0x1A00 ≤ a13 addr) && !within 0x1FE0 0x1FEB (a13 addr)) = true)
  simp only [Bool.and_eq_true, decide_eq_true_eq, Bool.not_eq_true', within_eq_false] at h
  show decode tag (busRequest addr acc) = some _
  rw [decode_cart acc h.1.1]
  simp (disch := omega) only [decodeCart, decodeE7, if_neg]

theorem dpcBank0 (addr : Addr) (acc : Access) : Statement (.dpcBank0 addr acc) := by
  intro tag (h : (cartAt tag .dpc addr && a13 addr == 0x1FF8) = true)
  simp only [Bool.and_eq_true, beq_iff_eq] at h
  show decode tag (busRequest addr acc) = some _
  rw [decode_cart acc h.1]
  simp (disch := omega) only [decodeCart, decodeDpc, if_neg, if_pos]

theorem dpcBank1 (addr : Addr) (acc : Access) : Statement (.dpcBank1 addr acc) := by
  intro tag (h : (cartAt tag .dpc addr && a13 addr == 0x1FF9) = true)
  simp only [Bool.and_eq_true, beq_iff_eq] at h
  show decode tag (busRequest addr acc) = some _
  rw [decode_cart acc h.1]
  simp (disch := omega) only [decodeCart, decodeDpc, if_neg, if_pos]

theorem dpcRom (addr : Addr) (acc : Access) : Statement (.dpcRom addr acc) := by
  intro tag (h : (cartAt tag .dpc addr && dpcRomAt addr acc) = true)
  simp only [Bool.and_eq_true] at h
  show decode tag (busRequest addr acc) = some _
  rw [decode_cart acc h.1]
  have h2 := h.2
  cases acc <;>
    simp only [dpcRomAt, within, Bool.and_eq_true, Bool.or_eq_true, decide_eq_true_eq, Bool.not_eq_true',
      Bool.and_eq_false_iff, decide_eq_false_iff_not] at h2 <;>
    simp only [decodeCart, decodeDpc] <;>
    repeat' split
  all_goals first | rfl | omega

theorem dpcRdRng (addr : Addr) : Statement (.dpcRdRng addr) := by
  intro tag (h : (cartAt tag .dpc addr && dpcReadAt addr 0 && decide (a3 addr < 4)) = true)
  simp only [Bool.and_eq_true, decide_eq_true_eq] at h
  show decode tag (busRequest addr .rd) = some _
  rw [decode_cart .rd h.1.1]
  show some (decodeDpc addr .rd) = some _
  rw [decodeDpc_read h.1.2, dpcReadRow, if_pos h.2]

theorem dpcRdMusic (addr : Addr) : Statement (.dpcRdMusic addr) := by
  intro tag (h : (cartAt tag .dpc addr && dpcReadAt addr 0 && decide (4 ≤ a3 addr)) = true)
  simp only [Bool.and_eq_true, decide_eq_true_eq] at h
  show decode tag (busRequest addr .rd) = some _
  rw [decode_cart .rd h.1.1]
  show some (decodeDpc addr .rd) = some _
  rw [decodeDpc_read h.1.2, dpcReadRow, if_neg (by omega)]

theorem dpcRdData (addr : Addr) : Statement (.dpcRdData addr) := by
  intro tag (h : (cartAt tag .dpc addr && dpcReadAt addr 1) = true)
  simp only [Bool.and_eq_true] at h
  show decode tag (busRequest addr .rd) = some _
  rw [decode_cart .rd h.1]
  exact congrArg some (decodeDpc_read h.2)

theorem dpcRdGated (addr : Addr) : Statement (.dpcRdGated addr) := by
  intro tag (h : (cartAt tag .dpc addr && dpcReadAt addr 2) = true)
  simp only [Bool.and_eq_true] at h
  show decode tag (busRequest addr .rd) = some _
  rw [decode_cart .rd h.1]
  exact congrArg some (decodeDpc_read h.2)

theorem dpcRdSwap (addr : Addr) : Statement (.dpcRdSwap addr) := by
  intro tag (h : (cartAt tag .dpc addr && dpcReadAt addr 3) = true)
  simp only [Bool.and_eq_true] at h
  show decode tag (busRequest addr .rd) = some _
  rw [decode_cart .rd h.1]
  exact congrArg some (decodeDpc_read h.2)

theorem dpcRdRev (addr : Addr) : Statement (.dpcRdRev addr) := by
  intro tag (h : (cartAt tag .dpc addr && dpcReadAt addr 4) = true)
  simp only [Bool.and_eq_true] at h
  show decode tag (busRequest addr .rd) = some _
  rw [decode_cart .rd h.1]
  exact congrArg some (decodeDpc_read h.2)

theorem dpcRdRor (addr : Addr) : Statement (.dpcRdRor addr) := by
  intro tag (h : (cartAt tag .dpc addr && dpcReadAt addr 5) = true)
  simp only [Bool.and_eq_true] at h
  show decode tag (busRequest addr .rd) = some _
  rw [decode_cart .rd h.1]
  exact congrArg some (decodeDpc_read h.2)

theorem dpcRdRol (addr : Addr) : Statement (.dpcRdRol addr) := by
  intro tag (h : (cartAt tag .dpc addr && dpcReadAt addr 6) = true)
  simp only [Bool.and_eq_true] at h
  show decode tag (busRequest addr .rd) = some _
  rw [decode_cart .rd h.1]
  exact congrArg some (decodeDpc_read h.2)

theorem dpcRdFlag (addr : Addr) : Statement (.dpcRdFlag addr) := by
  intro tag (h : (cartAt tag .dpc addr && dpcReadAt addr 7) = true)
  simp only [Bool.and_eq_true] at h
  show decode tag (busRequest addr .rd) = some _
  rw [decode_cart .rd h.1]
  exact congrArg some (decodeDpc_read h.2)

theorem dpcWrTop (addr : Addr) (d : Byte) : Statement (.dpcWrTop addr d) := by
  intro tag (h : (cartAt tag .dpc addr && dpcWriteAt addr 0) = true)
  simp only [Bool.and_eq_true] at h
  show decode tag (busRequest addr (.wr d)) = some _
  rw [decode_cart (.wr d) h.1]
  exact congrArg some (decodeDpc_write h.2)

theorem dpcWrBottom (addr : Addr) (d : Byte) : Statement (.dpcWrBottom addr d) := by
  intro tag (h : (cartAt tag .dpc addr && dpcWriteAt addr 1) = true)
  simp only [Bool.and_eq_true] at h
  show decode tag (busRequest addr (.wr d)) = some _
  rw [decode_cart (.wr d) h.1]
  exact congrArg some (decodeDpc_write h.2)

theorem dpcWrLow (addr : Addr) (d : Byte) : Statement (.dpcWrLow addr d) := by
  intro tag (h : (cartAt tag .dpc addr && dpcWriteAt addr 2) = true)
  simp only [Bool.and_eq_true] at h
  show decode tag (busRequest addr (.wr d)) = some _
  rw [decode_cart (.wr d) h.1]
  exact congrArg some (decodeDpc_write h.2)

theorem dpcWrHigh (addr : Addr) (d : Byte) : Statement (.dpcWrHigh addr d) := by
  intro tag (h : (cartAt tag .dpc addr && dpcWriteAt addr 3) = true)
  simp only [Bool.and_eq_true] at h
  show decode tag (busRequest addr (.wr d)) = some _
  rw [decode_cart (.wr d) h.1]
  exact congrArg some (decodeDpc_write h.2)

theorem dpcWrRngReset (addr : Addr) (d : Byte) : Statement (.dpcWrRngReset addr d) := by
  intro tag (h : (cartAt tag .dpc addr && dpcWriteAt addr 6) = true)
  simp only [Bool.and_eq_true] at h
  show decode tag (busRequest addr (.wr d)) = some _
  rw [decode_cart (.wr d) h.1]
  exact congrArg some (decodeDpc_write h.2)

theorem dpcWrNotImpl (addr : Addr) (d : Byte) : Statement (.dpcWrNotImpl addr d) := by
  intro tag (h : (cartAt tag .dpc addr && (dpcWriteAt addr 4 || dpcWriteAt addr 5 || dpcWriteAt addr 7)) = true)
  simp only [Bool.and_eq_true, Bool.or_eq_true] at h
  show decode tag (busRequest addr (.wr d)) = some _
  rw [decode_cart (.wr d) h.1]
  show some (decodeDpc addr (.wr d)) = some _
  obtain (hf | hf) | hf := h.2 <;> rw [decodeDpc_write hf] <;> rfl

theorem arLatch (addr : Addr) (acc : Access) : Statement (.arLatch addr acc) := by
  intro tag (h : (cartAt tag .ar66 addr && decide (a13 addr ≤ 0x10FF)) = true)
  simp only [Bool.and_eq_true, decide_eq_true_eq] at h
  show decode tag (busRequest addr acc) = some _
  rw [decode_cart acc h.1]
  simp (disch := omega) only [decodeCart, decodeAr, if_neg, if_pos]

theorem arCtrl (addr : Addr) (acc : Access) : Statement (.arCtrl addr acc) := by
  intro tag (h : (cartAt tag .ar66 addr && a13 addr == 0x1FF8) = true)
  simp only [Bool.and_eq_true, beq_iff_eq] at h
  show decode tag (busRequest addr acc) = some _
  rw [decode_cart acc h.1]
  simp (disch := omega) only [decodeCart, decodeAr, if_neg, if_pos]

theorem arMemRd (addr : Addr) : Statement (.arMemRd addr) := by
  intro tag (h : (cartAt tag .ar66 addr && decide (0x1100 ≤ a13 addr) && a13 addr != 0x1FF8) = true)
  simp only [Bool.and_eq_true, decide_eq_true_eq, bne_iff_ne, ne_eq] at h
  show decode tag (busRequest addr .rd) = some _
  rw [decode_cart .rd h.1.1]
  simp (disch := omega) only [decodeCart, decodeAr, if_neg]

theorem arMemWr (addr : Addr) (d : Byte) : Statement (.arMemWr addr d) := by
  intro tag (h : (cartAt tag .ar66 addr && decide (0x1100 ≤ a13 addr) && a13 addr != 0x1FF8) = true)
  simp only [Bool.and_eq_true, decide_eq_true_eq, bne_iff_ne, ne_eq] at h
  show decode tag (busRequest addr (.wr d)) = some _
  rw [decode_cart (.wr d) h.1.1]
  simp (disch := omega) only [decodeCart, decodeAr, if_neg]

theorem tiaTick : Statement (.tiaTick) := fun _ _ => rfl

theorem timerTick : Statement (.timerTick) := fun _ _ => rfl

theorem mapperTick : Statement (.mapperTick) := by
  intro tag (h : (!(tag == .fe || tag == .dpc || tag == .ar66)) = true)
  cases tag <;> first | rfl | exact absurd h (by decide)

theorem apuTick : Statement (.apuTick) := fun _ _ => rfl

theorem cycle : Statement (.cycle) := fun _ _ => rfl

theorem run (n : Nat) : Statement (.run n) := fun _ _ => rfl

theorem step (events : List CoreEvent) : Statement (.step events) := fun _ _ => rfl

theorem frameReady : Statement (.frameReady) := fun _ _ => rfl

theorem readFb : Statement (.readFb) := fun _ _ => rfl

theorem readSound (n : Nat) : Statement (.readSound n) := fun _ _ => rfl

theorem setInput (i : Input) : Statement (.setInput i) := fun _ _ => rfl

theorem snapshotSave : Statement (.snapshotSave) := fun _ _ => rfl

theorem snapshotLoad (snap : Snapshot) (image : Image) : Statement (.snapshotLoad snap image) := fun _ _ => rfl

theorem powerOn (image : Image) (format : TvFormat) (mode0 mode1 : ControllerMode) : Statement (.powerOn image format mode0 mode1) :=
  fun _ _ => rfl

theorem mapperResolve (addr : Addr) (isWrite : Bool) : Statement (.mapperResolve addr isWrite) := fun _ _ => rfl

theorem mapperInit : Statement (.mapperInit) := by
  intro tag (h : (tag != .ar66) = true)
  cases tag <;> first | rfl | exact absurd h (by decide)

theorem formatClassify (lines : List Int) : Statement (.formatClassify lines) := fun _ _ => rfl

theorem inputSample : Statement (.inputSample) := fun _ _ => rfl

theorem feTick : Statement (.feTick) := by
  intro tag (h : (tag == .fe) = true)
  simp only [beq_iff_eq] at h
  subst h
  rfl

theorem dpcTick : Statement (.dpcTick) := by
  intro tag (h : (tag == .dpc) = true)
  simp only [beq_iff_eq] at h
  subst h
  rfl

theorem arTick : Statement (.arTick) := by
  intro tag (h : (tag == .ar66) = true)
  simp only [beq_iff_eq] at h
  subst h
  rfl

theorem ar66Initialize : Statement (.ar66Initialize) := by
  intro tag (h : (tag == .ar66) = true)
  simp only [beq_iff_eq] at h
  subst h
  rfl

end Sys2Proof.Laws.RoundTrip
end

