-- ==== Sys2Proof/Tests/Slice0.lean ====
section
/-! SUPPORT. The model's own tests: words written out from the spec's encodings, ill-formed operations, single operations
with the results the spec's test vectors give (V and S numbers of `95_test_vectors.md`), and for every obligation with
hypotheses a witness that meets them. -/

namespace Sys2Proof.Tests

open Sys2Proof Sys2Proof.Machine Sys2Proof.Spec

/-! ## Helpers -/

/-- A bus word decodes to the operation, and the operation is encoded as that word. -/
def reads (tag : Tag) (w : Nat) (i : Instr) : Bool :=
  decode tag (requestOfBusWord w) == some i && busWord (encode i) == some w

/-- What the next state of an operation shows. -/
def shows {α : Type} (i : Instr) (s : State) (f : State → α) : Option α :=
  match exec i s with
  | .next t => some (f t)
  | _ => none

/-- What the next state of a step shows. -/
def stepShows {α : Type} (s : State) (f : State → α) : Option α :=
  match step s with
  | .next t => some (f t)
  | _ => none

/-- The byte a read answered with. -/
def byteOf : Reply → Option Byte
  | .byte v => some v
  | _ => none

/-- The state after reset with an image and an active variant. -/
def cart (n : Nat) (bytes : Mem) (m : Mapper) : State :=
  withMapper m { State.reset with image := ⟨n, bytes⟩ }

/-- The state after reset with the beam at `x`. -/
def beamAt (x : Int) : State := { State.reset with tia := { resetTia with x := x } }

/-! ## Decoding -/

/-- Words of format `TIAW`, written out from the tables of R91 and R94 to R97. -/
theorem test_decode_tiaw_0 : ∀ p ∈ [
      (0x20005A, Instr.vsync 0x0000 0x5A), (0x20415B, Instr.vblank 0x0041 0x5B),
      (0x25425C, Instr.wsync 0x0542 0x5C), (0x2F035D, Instr.rsync 0x0F03 0x5D),
      (0x20045E, Instr.nusiz0 0x0004 0x5E), (0x20455F, Instr.nusiz1 0x0045 0x5F),
      (0x254660, Instr.colup0 0x0546 0x60), (0x2F0761, Instr.colup1 0x0F07 0x61),
      (0x200862, Instr.colupf 0x0008 0x62), (0x204963, Instr.colubk 0x0049 0x63),
      (0x254A64, Instr.ctrlpf 0x054A 0x64), (0x2F0B65, Instr.refp0 0x0F0B 0x65),
      (0x200C66, Instr.refp1 0x000C 0x66), (0x204D67, Instr.pf0 0x004D 0x67),
      (0x254E68, Instr.pf1 0x054E 0x68), (0x2F0F69, Instr.pf2 0x0F0F 0x69)],
    reads .f8 p.1 p.2 = true := by decide

/-- Words of format `TIAW`, written out from the tables of R91 and R94 to R97. -/
theorem test_decode_tiaw_1 : ∀ p ∈ [
      (0x20106A, Instr.resp0 0x0010 0x6A), (0x20516B, Instr.resp1 0x0051 0x6B),
      (0x25526C, Instr.resm0 0x0552 0x6C), (0x2F136D, Instr.resm1 0x0F13 0x6D),
      (0x20146E, Instr.resbl 0x0014 0x6E), (0x20556F, Instr.audc0 0x0055 0x6F),
      (0x255670, Instr.audc1 0x0556 0x70), (0x2F1771, Instr.audf0 0x0F17 0x71),
      (0x201872, Instr.audf1 0x0018 0x72), (0x205973, Instr.audv0 0x0059 0x73),
      (0x255A74, Instr.audv1 0x055A 0x74), (0x2F1B75, Instr.grp0 0x0F1B 0x75),
      (0x201C76, Instr.grp1 0x001C 0x76), (0x205D77, Instr.enam0 0x005D 0x77),
      (0x255E78, Instr.enam1 0x055E 0x78), (0x2F1F79, Instr.enabl 0x0F1F 0x79)],
    reads .f8 p.1 p.2 = true := by decide

/-- Words of format `TIAW`, written out from the tables of R91 and R94 to R97. -/
theorem test_decode_tiaw_2 : ∀ p ∈ [
      (0x20207A, Instr.hmp0 0x0020 0x7A), (0x20617B, Instr.hmp1 0x0061 0x7B),
      (0x25627C, Instr.hmm0 0x0562 0x7C), (0x2F237D, Instr.hmm1 0x0F23 0x7D),
      (0x20247E, Instr.hmbl 0x0024 0x7E), (0x20657F, Instr.vdelp0 0x0065 0x7F),
      (0x256680, Instr.vdelp1 0x0566 0x80), (0x2F2781, Instr.vdelbl 0x0F27 0x81),
      (0x202882, Instr.resmp0 0x0028 0x82), (0x206983, Instr.resmp1 0x0069 0x83),
      (0x256A84, Instr.hmove 0x056A 0x84), (0x2F2B85, Instr.hmclr 0x0F2B 0x85),
      (0x202C86, Instr.cxclr 0x002C 0x86), (0x206D87, Instr.tiaw2D 0x006D 0x87),
      (0x256E88, Instr.tiaw2E 0x056E 0x88), (0x2F2F89, Instr.tiaw2F 0x0F2F 0x89)],
    reads .f8 p.1 p.2 = true := by decide

/-- Words of format `TIAW`, written out from the tables of R91 and R94 to R97. -/
theorem test_decode_tiaw_3 : ∀ p ∈ [
      (0x20308A, Instr.tiaw30 0x0030 0x8A), (0x20718B, Instr.tiaw31 0x0071 0x8B),
      (0x25728C, Instr.tiaw32 0x0572 0x8C), (0x2F338D, Instr.tiaw33 0x0F33 0x8D),
      (0x20348E, Instr.tiaw34 0x0034 0x8E), (0x20758F, Instr.tiaw35 0x0075 0x8F),
      (0x257690, Instr.tiaw36 0x0576 0x90), (0x2F3791, Instr.tiaw37 0x0F37 0x91),
      (0x203892, Instr.tiaw38 0x0038 0x92), (0x207993, Instr.tiaw39 0x0079 0x93),
      (0x257A94, Instr.tiaw3A 0x057A 0x94), (0x2F3B95, Instr.tiaw3B 0x0F3B 0x95),
      (0x203C96, Instr.tiaw3C 0x003C 0x96), (0x207D97, Instr.tiaw3D 0x007D 0x97),
      (0x257E98, Instr.tiaw3E 0x057E 0x98), (0x2F3F99, Instr.tiaw3F 0x0F3F 0x99)],
    reads .f8 p.1 p.2 = true := by decide

/-- Words of format `TIAR`, written out from the tables of R91 and R94 to R97. -/
theorem test_decode_tiar : ∀ p ∈ [
      (0x000000, Instr.cxm0p 0x0000), (0x003100, Instr.cxm1p 0x0031), (0x074200, Instr.cxp0fb 0x0742),
      (0x0F0300, Instr.cxp1fb 0x0F03), (0x000400, Instr.cxm0fb 0x0004), (0x003500, Instr.cxm1fb 0x0035),
      (0x074600, Instr.cxblpf 0x0746), (0x0F0700, Instr.cxppmm 0x0F07), (0x000800, Instr.inpt0 0x0008),
      (0x003900, Instr.inpt1 0x0039), (0x074A00, Instr.inpt2 0x074A), (0x0F0B00, Instr.inpt3 0x0F0B),
      (0x000C00, Instr.inpt4 0x000C), (0x003D00, Instr.inpt5 0x003D), (0x074E00, Instr.tiarE 0x074E),
      (0x0F0F00, Instr.tiarF 0x0F0F)],
    reads .f8 p.1 p.2 = true := by decide

/-- Words of format `RAM, IOP, TMRR, TMRW`, written out from the tables of R91 and R94 to R97. -/
theorem test_decode_ram_io_0 : ∀ p ∈ [
      (0x008500, Instr.ramRd 0x0085), (0x21FFAB, Instr.ramWr 0x01FF 0xAB), (0x028000, Instr.swchaRd 0x0280),
      (0x2298AD, Instr.swchaWr 0x0298 0xAD), (0x028100, Instr.swacntRd 0x0281),
      (0x2299AF, Instr.swacntWr 0x0299 0xAF), (0x028200, Instr.swchbRd 0x0282),
      (0x229AB1, Instr.swchbWr 0x029A 0xB1), (0x028300, Instr.swbcntRd 0x0283),
      (0x229BB3, Instr.swbcntWr 0x029B 0xB3), (0x028400, Instr.intim 0x0284), (0x028F00, Instr.timint 0x028F),
      (0x22FCB6, Instr.tim1t 0x02FC 0xB6), (0x2295B7, Instr.tim8t 0x0295 0xB7),
      (0x239EB8, Instr.tim64t 0x039E 0xB8), (0x22FFB9, Instr.t1024t 0x02FF 0xB9)],
    reads .f8 p.1 p.2 = true := by decide

/-- Words of format `RAM, IOP, TMRR, TMRW`, written out from the tables of R91 and R94 to R97. -/
theorem test_decode_ram_io_1 : ∀ p ∈ [
      (0x2284BA, Instr.edgectl 0x0284 0xBA)],
    reads .f8 p.1 p.2 = true := by decide

/-- Words of format `CART.Unknown`, written out from the tables of R91 and R94 to R97. -/
theorem test_decode_unknown : ∀ p ∈ [
      (0x1ABC00, Instr.unkRom 0x1ABC), (0x3FF8BC, Instr.unkWr 0x1FF8 0xBC)],
    reads .unknown p.1 p.2 = true := by decide

/-- Words of format `CART.F8`, written out from the tables of R91 and R94 to R97. -/
theorem test_decode_f8 : ∀ p ∈ [
      (0x3FF8BD, Instr.f8Bank0 0x1FF8 (.wr 0xBD)), (0x1FF900, Instr.f8Bank1 0x1FF9 .rd),
      (0x307FBF, Instr.f8Scw 0x107F 0xBF), (0x108000, Instr.f8Scr 0x1080), (0x107E00, Instr.f8Rom 0x107E),
      (0x3080C2, Instr.f8Wr 0x1080 0xC2)],
    reads .f8 p.1 p.2 = true := by decide

/-- Words of format `CART.F6`, written out from the tables of R91 and R94 to R97. -/
theorem test_decode_f6 : ∀ p ∈ [
      (0x3FF6C3, Instr.f6Bank0 0x1FF6 (.wr 0xC3)), (0x1FF700, Instr.f6Bank1 0x1FF7 .rd),
      (0x3FF8C5, Instr.f6Bank2 0x1FF8 (.wr 0xC5)), (0x1FF900, Instr.f6Bank3 0x1FF9 .rd),
      (0x3001C7, Instr.f6Scw 0x1001 0xC7), (0x10FF00, Instr.f6Scr 0x10FF), (0x1FFA00, Instr.f6Rom 0x1FFA),
      (0x3FF5CA, Instr.f6Wr 0x1FF5 0xCA)],
    reads .f6 p.1 p.2 = true := by decide

/-- Words of format `CART.F4`, written out from the tables of R91 and R94 to R97. -/
theorem test_decode_f4 : ∀ p ∈ [
      (0x3FF4CB, Instr.f4Bank0 0x1FF4 (.wr 0xCB)), (0x1FF500, Instr.f4Bank1 0x1FF5 .rd),
      (0x3FF6CD, Instr.f4Bank2 0x1FF6 (.wr 0xCD)), (0x1FF700, Instr.f4Bank3 0x1FF7 .rd),
      (0x3FF8CF, Instr.f4Bank4 0x1FF8 (.wr 0xCF)), (0x1FF900, Instr.f4Bank5 0x1FF9 .rd),
      (0x3FFAD1, Instr.f4Bank6 0x1FFA (.wr 0xD1)), (0x1FFB00, Instr.f4Bank7 0x1FFB .rd),
      (0x3000D3, Instr.f4Scw 0x1000 0xD3), (0x10AA00, Instr.f4Scr 0x10AA), (0x1FF300, Instr.f4Rom 0x1FF3),
      (0x3FFCD6, Instr.f4Wr 0x1FFC 0xD6)],
    reads .f4 p.1 p.2 = true := by decide

/-- Words of format `CART.FA`, written out from the tables of R91 and R94 to R97. -/
theorem test_decode_fa : ∀ p ∈ [
      (0x3FF8D7, Instr.faBank0 0x1FF8 (.wr 0xD7)), (0x1FF900, Instr.faBank1 0x1FF9 .rd),
      (0x3FFAD9, Instr.faBank2 0x1FFA (.wr 0xD9)), (0x10FF00, Instr.faRamw 0x10FF .rd),
      (0x3100DB, Instr.faRamr 0x1100 (.wr 0xDB)), (0x1FFB00, Instr.faRom 0x1FFB .rd)],
    reads .fa p.1 p.2 = true := by decide

/-- Words of format `CART.F0`, written out from the tables of R91 and R94 to R97. -/
theorem test_decode_f0 : ∀ p ∈ [
      (0x3FF0DD, Instr.f0Next 0x1FF0 (.wr 0xDD)), (0x1FEF00, Instr.f0Rom 0x1FEF .rd)],
    reads .f0 p.1 p.2 = true := by decide

/-- Words of format `CART.E0`, written out from the tables of R91 and R94 to R97. -/
theorem test_decode_e0 : ∀ p ∈ [
      (0x3FE7DF, Instr.e0S0 0x1FE7 (.wr 0xDF)), (0x1FE800, Instr.e0S1 0x1FE8 .rd),
      (0x3FF7E1, Instr.e0S2 0x1FF7 (.wr 0xE1)), (0x1FF800, Instr.e0Rom 0x1FF8 .rd)],
    reads .e0 p.1 p.2 = true := by decide

/-- Words of format `SNOOP.3F`, written out from the tables of R91 and R94 to R97. -/
theorem test_decode_snoop_3f : ∀ p ∈ [
      (0x203FE3, Instr.m3fBank 0x003F 0xE3)],
    reads .m3f p.1 p.2 = true := by decide

/-- Words of format `CART.3F`, written out from the tables of R91 and R94 to R97. -/
theorem test_decode_3f : ∀ p ∈ [
      (0x17FF00, Instr.m3fRom 0x17FF .rd)],
    reads .m3f p.1 p.2 = true := by decide

/-- Words of format `CART.FE`, written out from the tables of R91 and R94 to R97. -/
theorem test_decode_fe : ∀ p ∈ [
      (0x3123E5, Instr.feRom 0x1123 (.wr 0xE5))],
    reads .fe p.1 p.2 = true := by decide

/-- Words of format `CART.C0`, written out from the tables of R91 and R94 to R97. -/
theorem test_decode_c0 : ∀ p ∈ [
      (0x13FF00, Instr.c0Ramr 0x13FF .rd), (0x3400E7, Instr.c0Ramw 0x1400 (.wr 0xE7)),
      (0x180000, Instr.c0Rom 0x1800 .rd)],
    reads .c0 p.1 p.2 = true := by decide

/-- Words of format `CART.E7`, written out from the tables of R91 and R94 to R97. -/
theorem test_decode_e7_0 : ∀ p ∈ [
      (0x3FE0E9, Instr.e7Bank0 0x1FE0 (.wr 0xE9)), (0x1FE100, Instr.e7Bank1 0x1FE1 .rd),
      (0x3FE2EB, Instr.e7Bank2 0x1FE2 (.wr 0xEB)), (0x1FE300, Instr.e7Bank3 0x1FE3 .rd),
      (0x3FE4ED, Instr.e7Bank4 0x1FE4 (.wr 0xED)), (0x1FE500, Instr.e7Bank5 0x1FE5 .rd),
      (0x3FE6EF, Instr.e7Bank6 0x1FE6 (.wr 0xEF)), (0x1FE700, Instr.e7Ramon 0x1FE7 .rd),
      (0x3FE8F1, Instr.e7Rbank0 0x1FE8 (.wr 0xF1)), (0x1FE900, Instr.e7Rbank1 0x1FE9 .rd),
      (0x3FEAF3, Instr.e7Rbank2 0x1FEA (.wr 0xF3)), (0x1FEB00, Instr.e7Rbank3 0x1FEB .rd),
      (0x17FF00, Instr.e7LowRd 0x17FF), (0x3000F6, Instr.e7LowWr 0x1000 0xF6),
      (0x38FFF7, Instr.e7R256w 0x18FF (.wr 0xF7)), (0x190000, Instr.e7R256r 0x1900 .rd)],
    reads .e7 p.1 p.2 = true := by decide

/-- Words of format `CART.E7`, written out from the tables of R91 and R94 to R97. -/
theorem test_decode_e7_1 : ∀ p ∈ [
      (0x3A00F9, Instr.e7Fixed 0x1A00 (.wr 0xF9))],
    reads .e7 p.1 p.2 = true := by decide

/-- Words of format `CART.DC`, written out from the tables of R91 and R94 to R97. -/
theorem test_decode_dc_0 : ∀ p ∈ [
      (0x1FF800, Instr.dpcBank0 0x1FF8 .rd), (0x3FF9FB, Instr.dpcBank1 0x1FF9 (.wr 0xFB)),
      (0x108000, Instr.dpcRom 0x1080 .rd), (0x100300, Instr.dpcRdRng 0x1003),
      (0x100400, Instr.dpcRdMusic 0x1004), (0x100D00, Instr.dpcRdData 0x100D),
      (0x101700, Instr.dpcRdGated 0x1017), (0x101800, Instr.dpcRdSwap 0x1018),
      (0x102500, Instr.dpcRdRev 0x1025), (0x102F00, Instr.dpcRdRor 0x102F), (0x103000, Instr.dpcRdRol 0x1030),
      (0x103D00, Instr.dpcRdFlag 0x103D), (0x304706, Instr.dpcWrTop 0x1047 0x06),
      (0x304807, Instr.dpcWrBottom 0x1048 0x07), (0x305508, Instr.dpcWrLow 0x1055 0x08),
      (0x305F09, Instr.dpcWrHigh 0x105F 0x09)],
    reads .dpc p.1 p.2 = true := by decide

/-- Words of format `CART.DC`, written out from the tables of R91 and R94 to R97. -/
theorem test_decode_dc_1 : ∀ p ∈ [
      (0x30700A, Instr.dpcWrRngReset 0x1070 0x0A), (0x30780B, Instr.dpcWrNotImpl 0x1078 0x0B)],
    reads .dpc p.1 p.2 = true := by decide

/-- Words of format `CART.66`, written out from the tables of R91 and R94 to R97. -/
theorem test_decode_66 : ∀ p ∈ [
      (0x10FF00, Instr.arLatch 0x10FF .rd), (0x3FF80D, Instr.arCtrl 0x1FF8 (.wr 0x0D)),
      (0x110000, Instr.arMemRd 0x1100), (0x3FF70F, Instr.arMemWr 0x1FF7 0x0F)],
    reads .ar66 p.1 p.2 = true := by decide

/-- The event codes of R98, with their operands. -/
theorem test_decode_events : ∀ p ∈ [
      (Tag.f8, Request.event 0x00 .none, Instr.tiaTick), (.f8, .event 0x01 .none, .timerTick),
      (.f8, .event 0x02 .none, .mapperTick), (.fe, .event 0x02 .none, .feTick), (.dpc, .event 0x02 .none, .dpcTick),
      (.ar66, .event 0x02 .none, .arTick), (.f8, .event 0x03 .none, .apuTick), (.f8, .event 0x04 .none, .cycle),
      (.f8, .event 0x05 (.count 76), .run 76), (.f8, .event 0x06 (.core [.rd 0x1FFC, .run 2]), .step [.rd 0x1FFC, .run 2]),
      (.f8, .event 0x07 .none, .frameReady), (.f8, .event 0x08 .none, .readFb),
      (.f8, .event 0x09 (.count 10), .readSound 10), (.f8, .event 0x0A (.input neutralInput), .setInput neutralInput)],
    decode p.1 p.2.1 = some p.2.2 ∧ encode p.2.2 = p.2.1 := by decide

/-- The event codes of R98, with their operands, continued. -/
theorem test_decode_host_events : ∀ p ∈ [
      (Tag.f8, Request.event 0x0B .none, Instr.snapshotSave),
      (.f8, .event 0x0C (.snapshot zeroSnapshot Image.empty), .snapshotLoad zeroSnapshot Image.empty),
      (.f8, .event 0x0D (.power ⟨8192, []⟩ .pal .paddle .keypad), .powerOn ⟨8192, []⟩ .pal .paddle .keypad),
      (.f8, .event 0x0E (.access 0x1FF8 true), .mapperResolve 0x1FF8 true), (.f8, .event 0x0F .none, .mapperInit),
      (.ar66, .event 0x0F .none, .ar66Initialize), (.f8, .event 0x10 (.counts [262]), .formatClassify [262]),
      (.f8, .event 0x11 .none, .inputSample)],
    decode p.1 p.2.1 = some p.2.2 ∧ encode p.2.2 = p.2.1 := by decide

/-- Reserved event codes and operands of another kind are refused (R98, R99; log entry 10). -/
theorem test_decode_refused : ∀ p ∈ [
      Request.event 0x12 .none, .event 0xFF .none, .event 0x05 .none, .event 0x04 (.count 1), .event 0x0A (.count 0)],
    decode .f8 p = none := by decide

/-- Whatever a snapshot or an image holds, the load and the power-on are operations (R98, R467, R510; log entry 26). -/
theorem test_decode_any_value :
    decode .f8 (.event 0x0C (.snapshot { zeroSnapshot with mapper := .variant (.f0 16) } ⟨2048, []⟩)) =
      some (.snapshotLoad { zeroSnapshot with mapper := .variant (.f0 16) } ⟨2048, []⟩) ∧
    decode .f8 (.event 0x0D (.power ⟨1, [(1, 0x05)]⟩ .ntsc .joystick .joystick)) =
      some (.powerOn ⟨1, [(1, 0x05)]⟩ .ntsc .joystick .joystick) := by decide

/-! ## Ill-formed operations -/

/-- An address outside the row's region or with another select (R91, R94 to R96), and a write that `3F` snoops (R92). -/
theorem test_illformed_bus : ∀ p ∈ [
      (Tag.f8, Instr.vsync 0x0001 0), (.f8, .vsync 0x0080 0), (.f8, .vsync 0x1000 0), (.m3f, .vsync 0x0000 0),
      (.f8, .cxclr 0x002D 0), (.f8, .tiaw3F 0x003E 0), (.f8, .cxm0p 0x0001), (.f8, .cxm0p 0x0090), (.f8, .tiarF 0x000E),
      (.f8, .ramRd 0x0000), (.f8, .ramRd 0x0280), (.f8, .ramWr 0x1080 0), (.f8, .swchaRd 0x0281), (.f8, .swchaRd 0x0284),
      (.f8, .swbcntWr 0x0282 0), (.f8, .intim 0x0285), (.f8, .intim 0x0280), (.f8, .timint 0x0284), (.f8, .tim1t 0x0295 0),
      (.f8, .tim1t 0x0284 0), (.f8, .edgectl 0x0294 0), (.f8, .edgectl 0x0280 0)],
    p.2.wellFormed p.1 = false := by decide

/-- Another active variant than the row's, or an address outside the row's range (R97). -/
theorem test_illformed_cart : ∀ p ∈ [
      (Tag.f8, Instr.unkRom 0x1000), (.unknown, .unkRom 0x0000), (.f6, .f8Bank0 0x1FF8 .rd), (.f8, .f8Bank0 0x1FF9 .rd),
      (.f8, .f8Scw 0x1080 0), (.f8, .f8Scr 0x1100), (.f8, .f8Rom 0x1080), (.f8, .f8Rom 0x1FF8), (.f8, .f8Wr 0x107F 0),
      (.f8, .f8Wr 0x1FF9 0), (.fa, .faRamw 0x1100 .rd), (.fa, .faRamr 0x1200 .rd), (.fa, .faRom 0x1FFA .rd),
      (.f0, .f0Next 0x1FF1 .rd), (.f0, .f0Rom 0x1FF0 .rd), (.e0, .e0S0 0x1FE8 .rd), (.e0, .e0S1 0x1FE7 .rd),
      (.e0, .e0S2 0x1FF8 .rd), (.e0, .e0Rom 0x1FE0 .rd), (.m3f, .m3fBank 0x0040 0), (.f8, .m3fBank 0x003F 0),
      (.m3f, .m3fRom 0x0000 .rd)],
    p.2.wellFormed p.1 = false := by decide

/-- The same for FE, C0, E7, DPC and "66". -/
theorem test_illformed_cart_more : ∀ p ∈ [
      (Tag.f8, Instr.feRom 0x1000 .rd), (.c0, .c0Ramr 0x1400 .rd), (.c0, .c0Ramw 0x1800 .rd), (.c0, .c0Rom 0x17FF .rd),
      (.e7, .e7Bank0 0x1FE1 .rd), (.e7, .e7LowRd 0x1800), (.e7, .e7LowWr 0x1800 0), (.e7, .e7R256w 0x1900 .rd),
      (.e7, .e7R256r 0x1A00 .rd), (.e7, .e7Fixed 0x1FEB .rd), (.dpc, .dpcBank0 0x1FF9 .rd), (.dpc, .dpcRom 0x103F .rd),
      (.dpc, .dpcRom 0x1040 (.wr 0)), (.dpc, .dpcRdRng 0x1004), (.dpc, .dpcRdMusic 0x1003), (.dpc, .dpcRdData 0x1010),
      (.dpc, .dpcWrTop 0x1000 0), (.dpc, .dpcWrNotImpl 0x1070 0), (.ar66, .arLatch 0x1100 .rd), (.ar66, .arCtrl 0x1FF9 .rd),
      (.ar66, .arMemRd 0x10FF), (.ar66, .arMemWr 0x1FF8 0)],
    p.2.wellFormed p.1 = false := by decide

/-- Events of an inactive variant (R143, R145). -/
theorem test_illformed_events : ∀ p ∈ [
      (Tag.fe, Instr.mapperTick), (.dpc, .mapperTick), (.ar66, .mapperTick), (.f8, .feTick), (.f8, .dpcTick),
      (.f8, .arTick), (.ar66, .mapperInit), (.f8, .ar66Initialize)],
    p.2.wellFormed p.1 = false := by decide

/-! ## Video write registers: V50 to V57 -/

/-- V54: a falling edge at line 3 (NTSC), at line 0 (PAL), and no edge. -/
theorem test_vsync :
    shows (.vsync 0x0000 0x00) { State.reset with tia := { resetTia with y := 3, vsync := true } }
      (fun t => (t.tia.frameReady, t.tia.lastFrameLines, t.tia.y, t.tia.vsync)) = some (true, 40, -37, false) ∧
    shows (.vsync 0x0000 0x00) { State.reset with tvFormat := .pal, tia := { resetTia with vsync := true } }
      (fun t => (t.tia.lastFrameLines, t.tia.y)) = some (45, -45) ∧
    shows (.vsync 0x0000 0x00) State.reset (fun t => (t.tia.frameReady, t.tia.y)) = some (false, 0) := by decide

/-- V56: the dump, and its release at cycle 5000. -/
theorem test_vblank :
    shows (.vblank 0x0001 0x82) { State.reset with cycles := 10 }
      (fun t => (t.tia.vblankBlank, t.tia.vblankLatch, t.tia.vblankDump, t.io.paddleStart)) =
      some (true, false, true, 0) ∧
    shows (.vblank 0x0001 0x00) { State.reset with cycles := 5000, tia := { resetTia with vblankDump := true } }
      (fun t => (t.tia.vblankBlank, t.tia.vblankLatch, t.tia.vblankDump, t.io.paddleStart)) =
      some (false, false, false, 5000) := by decide

/-- V53: the position strobes in blanking, in the line, and past its end. -/
theorem test_position_strobes :
    shows (.resp0 0x0010 0) (beamAt (-68)) (fun t => t.tia.p0.pos) = some 3 ∧
    shows (.resm0 0x0012 0) (beamAt (-68)) (fun t => t.tia.m0.pos) = some 2 ∧
    shows (.resbl 0x0014 0) (beamAt (-68)) (fun t => t.tia.bl.pos) = some 2 ∧
    shows (.resp0 0x0010 0) (beamAt 1) (fun t => t.tia.p0.pos) = some 6 ∧
    shows (.resm1 0x0013 0) (beamAt 1) (fun t => t.tia.m1.pos) = some 5 ∧
    shows (.resp1 0x0011 0) (beamAt 52) (fun t => t.tia.p1.pos) = some 57 ∧
    shows (.resbl 0x0014 0) (beamAt 52) (fun t => t.tia.bl.pos) = some 56 ∧
    shows (.resm0 0x0012 0) (beamAt 157) (fun t => t.tia.m0.pos) = some 1 := by decide

/-- V50: the fields of `NUSIZ0`, `CTRLPF` and the motion registers. -/
theorem test_field_extraction :
    shows (.nusiz0 0x0004 0x35) State.reset (fun t => (t.tia.p0.nusiz, t.tia.m0.size)) = some (5, 3) ∧
    shows (.ctrlpf 0x000A 0x25) State.reset
      (fun t => (t.tia.pfReflect, t.tia.pfScore, t.tia.pfPriority, t.tia.bl.size)) = some (true, false, true, 2) ∧
    shows (.hmp0 0x0020 0x70) State.reset (fun t => t.tia.p0.hm) = some 7 ∧
    shows (.hmp1 0x0021 0x80) State.reset (fun t => t.tia.p1.hm) = some 8 ∧
    shows (.hmm0 0x0022 0xF0) State.reset (fun t => t.tia.m0.hm) = some 15 ∧
    shows (.hmm1 0x0023 0x10) State.reset (fun t => t.tia.m1.hm) = some 1 ∧
    shows (.hmbl 0x0024 0x0F) State.reset (fun t => t.tia.bl.hm) = some 0 := by decide

/-- V51: the bit order of the playfield registers, and a mirror of `PF0`. -/
theorem test_playfield_bits :
    shows (.pf0 0x000D 0x10) State.reset (fun t => t.tia.pfToLoad) = some 0x00001 ∧
    shows (.pf1 0x000E 0x80) State.reset (fun t => t.tia.pfToLoad) = some 0x00010 ∧
    shows (.pf2 0x000F 0x80) State.reset (fun t => t.tia.pfToLoad) = some 0x80000 ∧
    shows (.pf1 0x000E 0xAA) State.reset (fun t => t.tia.pfToLoad) = some 0x00550 ∧
    shows (.pf0 0x004D 0x00) { State.reset with tia := { resetTia with pfToLoad := 0x5555F } }
      (fun t => (t.tia.pfToLoad, t.tia.pfActive)) = some (0x55550, 0) := by decide

/-- V52: a shape write loads the other player's delayed latch, `GRP1` the ball's too. -/
theorem test_delayed_latches :
    shows (.grp0 0x001B 0xFF) { State.reset with tia := { resetTia with p1 := { resetPlayer with grpNew := 0x3C } } }
      (fun t => (t.tia.p0.grpNew, t.tia.p1.grpOld, t.tia.p0.grpOld)) = some (0xFF, 0x3C, 0x00) ∧
    shows (.grp1 0x001C 0x18) { State.reset with
        tia := { resetTia with p0 := { resetPlayer with grpNew := 0xFF }, bl := { resetBall with enNew := true } } }
      (fun t => (t.tia.bl.enOld, t.tia.p0.grpOld, t.tia.p1.grpNew)) = some (true, 0xFF, 0x18) := by decide

/-- Enables, delays, reflection, colours: one bit or byte each (R248 to R254, R271 to R273, R279 to R283). -/
theorem test_enables_and_colours :
    shows (.enam0 0x001D 0x02) State.reset (fun t => (t.tia.m0.enabled, t.tia.m1.enabled)) = some (true, false) ∧
    shows (.enabl 0x001F 0x02) State.reset (fun t => (t.tia.bl.enNew, t.tia.bl.enOld)) = some (true, false) ∧
    shows (.vdelp1 0x0026 0x01) State.reset (fun t => (t.tia.p0.vdel, t.tia.p1.vdel)) = some (false, true) ∧
    shows (.resmp0 0x0028 0x02) State.reset (fun t => (t.tia.m0.resmp, t.tia.m1.resmp)) = some (true, false) ∧
    shows (.refp0 0x000B 0x08) State.reset (fun t => (t.tia.p0.refl, t.tia.p1.refl)) = some (true, false) ∧
    shows (.colup1 0x0007 0x8A) State.reset (fun t => (t.tia.p0.colu, t.tia.p1.colu)) = some (0, 0x8A) ∧
    shows (.colubk 0x0009 0x84) State.reset (fun t => (t.tia.colupf, t.tia.colubk)) = some (0, 0x84) := by decide

/-- The motion strobe before and in the visible line (R284), `WSYNC` (R244), `HMCLR` (R285), `CXCLR` (R286). -/
theorem test_strobes :
    shows (.hmove 0x002A 0) (beamAt (-68)) (fun t => (t.tia.hmovePending, t.tia.hmoveLate)) = some (true, false) ∧
    shows (.hmove 0x002A 0) (beamAt 22) (fun t => (t.tia.hmovePending, t.tia.hmoveLate)) = some (true, true) ∧
    shows (.wsync 0x0002 0) State.reset (fun t => (t.tia.waitHBlank, t.tia.x)) = some (true, -68) ∧
    shows (.hmclr 0x002B 0) { State.reset with tia := { resetTia with bl := { resetBall with hm := 15, pos := 9 } } }
      (fun t => (t.tia.bl.hm, t.tia.bl.pos)) = some (0, 9) ∧
    shows (.cxclr 0x002C 0) { State.reset with tia := { resetTia with cx := { noCollisions with m0m1 := true } } }
      (fun t => t.tia.cx) = some noCollisions := by decide

/-- V57, and a write through a mirror (R99, R287): unimplemented registers only log. -/
theorem test_unimplemented_writes :
    shows (.rsync 0x0003 0) (beamAt 22) (fun t => (t.tia.x, t.anomalies)) =
      some (22, [⟨.unimplementedRegister, 0x03, 0x0003⟩]) ∧
    shows (.tiaw2D 0x002D 0xFF) State.reset (fun t => (t.tia, t.anomalies)) =
      some (resetTia, [⟨.unimplementedRegister, 0x2D, 0x002D⟩]) ∧
    shows (.tiaw2E 0x056E 0xFF) State.reset (fun t => t.anomalies) = some [⟨.unimplementedRegister, 0x2E, 0x056E⟩] ∧
    shows (.tiarE 0x003E) State.reset (fun t => t.anomalies) = some [⟨.unimplementedRegister, 0x0E, 0x003E⟩] := by decide

/-- Sound registers keep the generators (R263 to R268). -/
theorem test_sound_registers :
    shows (.audc0 0x0015 0xF4) State.reset (fun t => (t.apu.ch0.audc, t.apu.ch0.poly4)) = some (4, 0xF) ∧
    shows (.audf1 0x0018 0xFF) State.reset (fun t => (t.apu.ch0.audf, t.apu.ch1.audf)) = some (0, 0x1F) ∧
    shows (.audv0 0x0019 0x18) State.reset (fun t => (t.apu.ch0.audv, t.apu.ch1.audv)) = some (8, 0) := by decide

/-! ## Reads, RAM, ports, timer: V2, V75, V80 to V95 -/

/-- V75: `CXP0FB` with P0-PF set answers 0b10??????, whatever the undriven bits are. -/
theorem test_collision_read :
    exec (.cxp0fb 0x0002) { State.reset with tia := { resetTia with cx := { noCollisions with p0pf := true } } } =
      .next (closeRead 0x0002 (driven true false (Config.draw6 0),
        State.drew { State.reset with tia := { resetTia with cx := { noCollisions with p0pf := true } } })) ∧
    ∀ low : BitVec 6, (driven true false low).getLsbD 7 = true ∧ (driven true false low).getLsbD 6 = false :=
  ⟨rfl, by decide⟩

/-- V94, V95, V97: the input lines. -/
theorem test_input_lines :
    trigLine State.reset .port0 = true ∧
    trigLine { State.reset with input := { neutralInput with joy0 := { neutralJoystick with button := true } } } .port0 =
      false ∧
    trigLine { State.reset with
        tia := { resetTia with vblankLatch := true }, io := { resetIo with inptLatch0 := false } } .port0 = false ∧
    keypadColumn { resetIo with swacnt := 0xF0, swchaOut := 0xE0 }
      { neutralInput with keypad0 := { neutralKeypad with r0 := ⟨false, true, false⟩ } } .port0 .c1 = false ∧
    keypadColumn { resetIo with swacnt := 0xF0, swchaOut := 0xD0 }
      { neutralInput with keypad0 := { neutralKeypad with r0 := ⟨false, true, false⟩ } } .port0 .c1 = true ∧
    keypadColumn { resetIo with swacnt := 0x00, swchaOut := 0x00 }
      { neutralInput with keypad0 := { neutralKeypad with r0 := ⟨false, true, false⟩ } } .port0 .c1 = true ∧
    (potLine .pot0 { State.reset with mode0 := .paddle, io := { resetIo with paddleCharged0 := true } }).1 = true := by
  decide

/-- V2: a write through one mirror, a read through another. -/
theorem test_ram :
    shows (.ramWr 0x0180 0xAA) State.reset (fun t => (t.bus.ram, t.bus.lastWriteAddr, t.bus.lastReadAddr)) =
      some ([(0, 0xAA)], 0x0180, 0) ∧
    shows (.ramRd 0x2080) { State.reset with bus := { resetBus with ram := [(0, 0xAA)] } }
      (fun t => (byteOf t.reply, t.bus.lastReadAddr, t.bus.lastAccessAddr)) = some (some 0xAA, 0x2080, 0x2080) := by
  decide

/-- V90 to V93: ports at rest, joystick pins, direction bits, switches, paddle buttons. -/
theorem test_ports :
    shows (.swchaRd 0x0280) State.reset (fun t => byteOf t.reply) = some (some 0xFF) ∧
    shows (.swchbRd 0x0282) State.reset (fun t => byteOf t.reply) = some (some 0x3F) ∧
    shows (.swchaRd 0x0280) { State.reset with io := { resetIo with swacnt := 0x0F, swchaOut := 0xA5 }, input :=
        { neutralInput with joy0 := { neutralJoystick with right := true }, joy1 := { neutralJoystick with up := true } } }
      (fun t => byteOf t.reply) = some (some 0x75) ∧
    shows (.swchbRd 0x0282) { State.reset with io := { resetIo with swbcnt := 0x34 }, input :=
        { neutralInput with diff0 := true, diff1 := true } } (fun t => byteOf t.reply) = some (some 0xCB) ∧
    shows (.swchaRd 0x0280) { State.reset with mode0 := .paddle, mode1 := .keypad, input :=
        { neutralInput with paddle1 := ⟨true, 0⟩ } } (fun t => byteOf t.reply) = some (some 0xBF) ∧
    shows (.swacntWr 0x0281 0x0F) State.reset (fun t => t.io.swacnt) = some 0x0F ∧
    shows (.swbcntRd 0x0283) { State.reset with io := { resetIo with swbcnt := 0x34 } } (fun t => byteOf t.reply) =
      some (some 0x34) := by decide

/-- V80, V83, V85, V86: timer writes. -/
theorem test_timer_writes :
    shows (.tim64t 0x0296 0x02) State.reset (fun t => t.timer) = some ⟨0x01, .d64, 64, false, false⟩ ∧
    shows (.tim8t 0x0295 0x00) State.reset (fun t => t.timer) = some ⟨0xFF, .d8, 1, true, true⟩ ∧
    shows (.tim64t 0x029E 0x09) { State.reset with timer := ⟨0xFF, .d1, 1, true, true⟩ } (fun t => t.timer) =
      some ⟨0x08, .d64, 64, false, false⟩ ∧
    shows (.edgectl 0x028C 0x01) State.reset (fun t => (t.timer, t.anomalies)) =
      some (resetTimer, [⟨.unimplementedRegister, 0x028C, 0x028C⟩]) := by decide

/-- V81, V83: the underflow, and the two flags with their own reads. -/
theorem test_timer_flags :
    shows .timerTick { State.reset with timer := ⟨0, .d1024, 1, false, false⟩ } (fun t => t.timer) =
      some ⟨0xFF, .d1024, 1, true, true⟩ ∧
    shows .timerTick { State.reset with timer := ⟨0xFC, .d8, 1, false, true⟩ } (fun t => t.timer) =
      some ⟨0xFB, .d8, 8, false, true⟩ ∧
    shows (.timint 0x0285) { State.reset with timer := ⟨0xFC, .d8, 1, true, true⟩ }
      (fun t => (byteOf t.reply, t.timer)) = some (some 0x80, ⟨0xFC, .d8, 1, true, false⟩) ∧
    shows (.intim 0x028C) { State.reset with timer := ⟨0xFC, .d8, 1, true, false⟩ }
      (fun t => (byteOf t.reply, t.timer)) = some (some 0xFC, ⟨0xFC, .d8, 1, false, false⟩) := by decide

/-! ## Cartridge variants: V10 to V44 -/

/-- V15: a 4 KB image, and a 2 KB image seen twice. -/
theorem test_unknown :
    shows (.unkRom 0x1FFF) (cart 4096 [(0x0FFF, 0x2C)] .unknown) (fun t => byteOf t.reply) = some (some 0x2C) ∧
    shows (.unkRom 0x17FC) (cart 2048 [(0x07FC, 0x11)] .unknown) (fun t => byteOf t.reply) = some (some 0x11) ∧
    shows (.unkWr 0x1FF8 0) (cart 4096 [] .unknown) (fun t => t.bus.mapper) = some .unknown := by decide

/-- V20, V22, V23: the access that selects the variant is served by it. -/
theorem test_standard_hotspots :
    shows (.f8Bank1 0x1FF9 .rd) (cart 8192 [(0x0FF9, 0x26), (0x1FF9, 0x56)] .unknown)
      (fun t => (byteOf t.reply, t.bus.mapper)) = some (some 0x56, .std ⟨.f8, 1, false, []⟩) ∧
    shows (.f6Bank3 0x1FF9 .rd) (cart 16384 [] .unknown) (fun t => t.bus.mapper) = some (.std ⟨.f6, 3, false, []⟩) ∧
    shows (.f4Bank7 0x1FFB (.wr 0)) (cart 32768 [] .unknown) (fun t => t.bus.mapper) =
      some (.std ⟨.f4, 7, false, []⟩) := by decide

/-- V21: the superchip overlay. -/
theorem test_superchip :
    shows (.f8Scw 0x1005 0x99) (cart 8192 [] (fresh .f8)) (fun t => t.bus.mapper) =
      some (.std ⟨.f8, 0, true, [(5, 0x99)]⟩) ∧
    shows (.f8Scr 0x1085) (cart 8192 [(0x1085, 0xB5)] (.std ⟨.f8, 1, true, [(5, 0x99)]⟩)) (fun t => byteOf t.reply) =
      some (some 0x99) ∧
    shows (.f8Scr 0x1085) (cart 8192 [(0x1085, 0xB5)] (.std ⟨.f8, 1, false, []⟩)) (fun t => byteOf t.reply) =
      some (some 0xB5) ∧
    shows (.f8Rom 0x1005) (cart 8192 [(0x1005, 0x35)] (.std ⟨.f8, 1, false, []⟩)) (fun t => byteOf t.reply) =
      some (some 0x35) := by decide

/-- V24 and V25: FA and F0. -/
theorem test_fa_f0 :
    shows (.faBank2 0x1FFA .rd) (cart 12288 [(0x2FFA, 0x87)] .unknown) (fun t => (byteOf t.reply, t.bus.mapper)) =
      some (some 0x87, .fa ⟨2, []⟩) ∧
    shows (.faRamw 0x1010 (.wr 0x42)) (cart 12288 [] (.fa ⟨2, []⟩)) (fun t => t.bus.mapper) =
      some (.fa ⟨2, [(0x10, 0x42)]⟩) ∧
    shows (.faRamr 0x1110 .rd) (cart 12288 [] (.fa ⟨2, [(0x10, 0x42)]⟩)) (fun t => byteOf t.reply) = some (some 0x42) ∧
    shows (.faRom 0x1200 .rd) (cart 12288 [(0x2200, 0x66)] (.fa ⟨2, []⟩)) (fun t => byteOf t.reply) = some (some 0x66) ∧
    shows (.f0Next 0x1FF0 .rd) (cart 65536 [(0x1FF0, 0x4D)] .unknown) (fun t => (byteOf t.reply, t.bus.mapper)) =
      some (some 0x4D, .f0 1) ∧
    shows (.f0Next 0x1FF0 (.wr 0)) (cart 65536 [] (.f0 15)) (fun t => t.bus.mapper) = some (.f0 0) := by decide

/-- V26 and V27: the 3F bank write, its guard, and the two halves. -/
theorem test_3f :
    shows (.m3fBank 0x003F 0x02) { cart 8192 [] .unknown with
        bus := { resetBus with lastWriteAddr := 0x0002 } } (fun t => (t.bus.mapper, t.anomalies)) =
      some (.m3f 2, [⟨.unimplementedRegister, 0x3F, 0x003F⟩]) ∧
    shows (.m3fBank 0x003F 0x01) { cart 8192 [] .unknown with
        bus := { resetBus with mapper := .m3f 0, lastWriteAddr := 0x003E } } (fun t => (t.bus.mapper, t.anomalies)) =
      some (.m3f 0, [⟨.heuristicAmbiguity, 0x3F, 0x003F⟩, ⟨.unimplementedRegister, 0x3F, 0x003F⟩]) ∧
    shows (.m3fRom 0x1000 .rd) (cart 8192 [(0x1000, 0x30)] (.m3f 2)) (fun t => byteOf t.reply) = some (some 0x30) ∧
    shows (.m3fRom 0x1FFC .rd) (cart 8192 [(0x1FFC, 0x59)] (.m3f 2)) (fun t => byteOf t.reply) = some (some 0x59) := by
  decide

/-- V28, V29, V30: E0, FE, C0. -/
theorem test_e0_fe_c0 :
    shows (.e0S1 0x1FEB .rd) (cart 8192 [] (fresh .e0)) (fun t => t.bus.mapper) = some (.e0 ⟨0, 3, 0⟩) ∧
    shows (.e0Rom 0x1400 .rd) (cart 8192 [(0x0C00, 0x24)] (.e0 ⟨0, 3, 0⟩)) (fun t => byteOf t.reply) =
      some (some 0x24) ∧
    shows (.e0Rom 0x1C00 .rd) (cart 8192 [(0x1C00, 0x54)] (.e0 ⟨0, 3, 0⟩)) (fun t => byteOf t.reply) =
      some (some 0x54) ∧
    shows .feTick { cart 8192 [] .unknown with bus := { resetBus with mapper := .fe 0, lastReadAddr := 0xD123 } }
      (fun t => t.bus.mapper) = some (.fe 1) ∧
    shows .feTick { cart 8192 [] .unknown with bus := { resetBus with mapper := .fe 1, lastReadAddr := 0xF123 } }
      (fun t => t.bus.mapper) = some (.fe 0) ∧
    shows (.feRom 0xD000 .rd) (cart 8192 [(0x1000, 0x30)] (.fe 1)) (fun t => byteOf t.reply) = some (some 0x30) ∧
    shows (.c0Ramw 0x1403 (.wr 0x5A)) (cart 2048 [] (fresh .c0)) (fun t => t.bus.mapper) = some (.c0 [(3, 0x5A)]) ∧
    shows (.c0Ramr 0x1003 .rd) (cart 2048 [] (.c0 [(3, 0x5A)])) (fun t => byteOf t.reply) = some (some 0x5A) ∧
    shows (.c0Rom 0x1803 .rd) (cart 2048 [(3, 0x03)] (fresh .c0)) (fun t => byteOf t.reply) = some (some 0x03) := by
  decide

/-- V35: E7. -/
theorem test_e7 :
    shows (.e7Ramon 0x1FE7 .rd) (cart 16384 [(0x3FE7, 0xA4)] (fresh .e7)) (fun t => (byteOf t.reply, t.bus.mapper)) =
      some (some 0xA4, .e7 ⟨8, 0, [], []⟩) ∧
    shows (.e7LowWr 0x1010 0x77) (cart 16384 [] (.e7 ⟨8, 0, [], []⟩)) (fun t => t.bus.mapper) =
      some (.e7 ⟨8, 0, [(0x10, 0x77)], []⟩) ∧
    shows (.e7LowRd 0x1410) (cart 16384 [] (.e7 ⟨8, 0, [(0x10, 0x77)], []⟩)) (fun t => byteOf t.reply) =
      some (some 0x77) ∧
    shows (.e7R256w 0x1820 (.wr 0x0F)) (cart 16384 [] (.e7 ⟨8, 1, [], []⟩)) (fun t => t.bus.mapper) =
      some (.e7 ⟨8, 1, [], [(0x120, 0x0F)]⟩) ∧
    shows (.e7R256r 0x1920 .rd) (cart 16384 [] (.e7 ⟨8, 0, [], [(0x120, 0x0F)]⟩)) (fun t => byteOf t.reply) =
      some (some 0x00) ∧
    shows (.e7LowRd 0x1234) (cart 16384 [(0x1234, 0x6A)] (.e7 ⟨2, 0, [], []⟩)) (fun t => byteOf t.reply) =
      some (some 0x6A) ∧
    shows (.e7Fixed 0x1A00 .rd) (cart 16384 [(0x3A00, 0xAE)] (.e7 ⟨2, 0, [], []⟩)) (fun t => byteOf t.reply) =
      some (some 0xAE) := by decide

/-- A DPC record with one pointer given. -/
def dpcWith (i : Nat) (p : Pointer) : Mapper := .dpc ⟨0, resetPointers.set i p, 1, 0⟩

/-- V36, V38: the generator and the six data functions of pointer 1. -/
theorem test_dpc_reads :
    shows (.dpcRdRng 0x1000) (cart 10240 [] (fresh .dpc)) (fun t => byteOf t.reply) = some (some 0x03) ∧
    ∀ p ∈ [(Instr.dpcRdData 0x1009, (0x6F : Byte)), (.dpcRdGated 0x1011, 0x6F), (.dpcRdSwap 0x1019, 0xF6),
        (.dpcRdRev 0x1021, 0xF6), (.dpcRdRor 0x1029, 0xB7), (.dpcRdRol 0x1031, 0xDE), (.dpcRdFlag 0x1039, 0xFF)],
      shows p.1 (cart 10240 [(8192 + 2042, 0x6F)] (dpcWith 1 ⟨0x80, 0x81, 0x0005, 0xFF, false⟩))
        (fun t => (byteOf t.reply, t.bus.mapper)) =
        some (some p.2, .dpc ⟨0, resetPointers.set 1 ⟨0x80, 0x81, 0x0004, 0xFF, false⟩, 0x03, 0⟩) := by decide

/-- V37, V39: the window, and the write registers. -/
theorem test_dpc_pointer :
    shows (.dpcRdGated 0x1010) (cart 10240 [(8192 + 2042, 0x6F)] (dpcWith 0 ⟨5, 2, 0x0005, 0x00, false⟩))
      (fun t => (byteOf t.reply, t.bus.mapper)) =
      some (some 0x6F, .dpc ⟨0, resetPointers.set 0 ⟨5, 2, 0x0004, 0xFF, false⟩, 0x03, 0⟩) ∧
    shows (.dpcRdGated 0x1010) (cart 10240 [(8192 + 2045, 0x72)] (dpcWith 0 ⟨5, 2, 0x0002, 0xFF, false⟩))
      (fun t => byteOf t.reply) = some (some 0x00) ∧
    shows (.dpcWrHigh 0x105D 0x10) (cart 10240 [] (dpcWith 5 ⟨3, 1, 0x0000, 0x00, false⟩)) (fun t => t.bus.mapper) =
      some (.dpc ⟨0, resetPointers.set 5 ⟨3, 1, 0x1000, 0x00, true⟩, 0x03, 0⟩) ∧
    shows (.dpcWrLow 0x1055 0xAA) (cart 10240 [] (dpcWith 5 ⟨3, 1, 0x1000, 0x00, true⟩)) (fun t => t.bus.mapper) =
      some (.dpc ⟨0, resetPointers.set 5 ⟨3, 1, 0x1003, 0x00, true⟩, 0x03, 0⟩) ∧
    shows (.dpcWrNotImpl 0x1060 0x01) (cart 10240 [] (fresh .dpc)) (fun t => (t.bus.mapper, t.anomalies)) =
      some (.dpc ⟨0, resetPointers, 0x03, 0⟩, [⟨.unimplementedRegister, 0x1060, 0x1060⟩]) := by decide

/-- V39: the oscillator event and the mixer. -/
theorem test_dpc_music :
    shows .dpcTick (cart 10240 [] (.dpc ⟨0, resetPointers.set 5 ⟨3, 1, 0x1003, 0x00, true⟩, 1, 59⟩))
      (fun t => t.bus.mapper) = some (.dpc ⟨0, resetPointers.set 5 ⟨3, 1, 0x1002, 0xFF, true⟩, 1, 0⟩) ∧
    shows .dpcTick (cart 10240 [] (.dpc ⟨0, resetPointers.set 5 ⟨3, 1, 0x1000, 0x00, true⟩, 1, 59⟩))
      (fun t => t.bus.mapper) = some (.dpc ⟨0, resetPointers.set 5 ⟨3, 1, 0x1003, 0xFF, true⟩, 1, 0⟩) ∧
    shows (.dpcRdMusic 0x1005) (cart 10240 [] (dpcWith 5 ⟨3, 1, 0x1002, 0xFF, true⟩))
      (fun t => (byteOf t.reply, t.bus.mapper)) =
      some (some 0x04, .dpc ⟨0, resetPointers.set 5 ⟨3, 1, 0x1002, 0xFF, true⟩, 0x03, 0⟩) := by decide

/-- V40 to V44: "66". -/
theorem test_ar :
    shows (.arMemRd 0x1234) (cart 8448 [] (.ar66 ⟨[(0x0A34, 0x52)], 0x1E, 0, false, 0, 0, 0x1234⟩))
      (fun t => byteOf t.reply) = some (some 0x52) ∧
    shows (.arLatch 0x1055 (.wr 0xEE)) (cart 8448 [] (.ar66 ⟨[], 0x1E, 0, false, 0, 0, 0⟩)) (fun t => t.bus.mapper) =
      some (.ar66 ⟨[], 0x1E, 0x55, true, 0, 0, 0⟩) ∧
    shows (.arLatch 0x1077 .rd) (cart 8448 [] (.ar66 ⟨[], 0x02, 0x00, true, 0, 0, 0⟩)) (fun t => t.bus.mapper) =
      some (.ar66 ⟨[], 0x02, 0x00, true, 0, 0, 0⟩) ∧
    shows (.arCtrl 0x1FF8 .rd) (cart 8448 [] (.ar66 ⟨[], 0x1E, 0x02, true, 0, 0, 0⟩)) (fun t => t.bus.mapper) =
      some (.ar66 ⟨[], 0x02, 0x02, false, 0, 0, 0⟩) ∧
    shows .arTick { cart 8448 [] .unknown with bus := { resetBus with
        mapper := .ar66 ⟨[(0x0A34, 0x52)], 0x1E, 0x55, true, 0x1234, 4, 0⟩, lastAccessAddr := 0x1234 } }
      (fun t => t.bus.mapper) = some (.ar66 ⟨[(0x0A34, 0x55)], 0x1E, 0x55, false, 0x1234, 5, 0⟩) ∧
    shows (.arMemRd 0x1900) (cart 8448 [] (.ar66 ⟨[], 0x02, 0x02, false, 0, 0, 0⟩)) (fun t => t.anomalies) =
      some [⟨.unimplementedRegister, 0x1900, 0x1900⟩] := by decide

/-- V40: the entry vector and the control byte. -/
theorem test_ar_initialize :
    shows .ar66Initialize (cart 8448 [(0x0A34, 0x52), (0x2000, 0x34), (0x2001, 0x12), (0x2002, 0x1E)] (fresh .ar66))
      (fun t => t.bus.mapper) = some (.ar66 ⟨[(0x0A34, 0x52)], 0x1E, 0, false, 0, 0, 0x1234⟩) := by decide

/-- V10: which image lengths power-on accepts once their hash is unknown. -/
theorem test_size_check :
    [1, 2048, 4096, 4097, 6144, 8192, 8448, 10240, 12288, 16384, 32768, 65536, 65537, 131072].map tagBySize =
      [some .unknown, some .unknown, some .unknown, none, none, some .unknown, some .ar66, none, some .unknown,
        some .unknown, some .unknown, some .unknown, none, none] ∧
    shows (.powerOn ⟨0, []⟩ .pal .paddle .joystick) (beamAt 100) (fun t => (t.fatal, t.tia.x, t.tvFormat, t.coreStart)) =
      some (some ⟨.unrecognizedCartSize, 0⟩, -68, .pal, none) := by decide

/-- V27 and R146: detection on its own. -/
theorem test_resolve :
    shows (.mapperResolve 0x003F true) { cart 8192 [] .unknown with bus := { resetBus with lastWriteAddr := 0x003E } }
      (fun t => t.bus.mapper) = some .unknown ∧
    shows (.mapperResolve 0x003F true) (cart 8192 [] .unknown) (fun t => t.bus.mapper) = some (.m3f 0) ∧
    shows (.mapperResolve 0x1FF5 false) (cart 16384 [] .unknown) (fun t => t.bus.mapper) = some .unknown := by decide

/-- R467: the version alone decides first, then the load takes every field, with the image it is given: a `3F` bank the
shorter image does not have, more accumulated sound than samples. -/
theorem test_load_takes_every_field :
    (∀ (snap : Snapshot) image, exec (.snapshotLoad { snap with version := Config.snapVersion + 1 } image) State.reset =
      .next { State.reset with reply := .loadFailed .futureVersion (Config.snapVersion + 1) }) ∧
    shows (.snapshotLoad { zeroSnapshot with
        version := Config.snapVersion
        mapper := .variant (.m3f 3)
        apu := { resetApu with acc := 1 } } ⟨2048, []⟩)
      State.reset (fun t => (t.reply, t.bus.mapper, t.apu.acc, t.image.size)) = some (.loaded, .m3f 3, 1, 2048) := by
  constructor
  · intro snap image
    exact congrArg Host.Outcome.next (if_pos (Int.lt_succ _))
  · simp [shows, exec, execSnapshotLoad, loadSnapshot, currentSnapshot, loadCurrent, restored, zeroSnapshot, State.ended,
      State.reset, State.answer]

/-- The codes of R480's table. -/
theorem test_error_codes :
    FatalKind.unrecognizedCartSize.code = 1 ∧
    [LoadFailure.unknownMapperTag, .unknownVersion, .futureVersion].map LoadFailure.code = [2, 3, 4] ∧
    [AnomalyKind.unimplementedRegister, .heuristicAmbiguity].map AnomalyKind.code = [16, 17] := by decide

/-- The derived parameters of R7, and its condition on `Y_MAX`. -/
theorem test_parameters :
    Config.lineClocks = 228 ∧ Config.cyclesPerLine = 76 ∧ Config.sampleDiv .ntsc = 27 ∧ Config.sampleDiv .pal = 26 ∧
    (Config.lines .pal : Int) ≤ Config.yMax - Config.yTop .ntsc := by decide

/-! ## The colour clock: S2, V61 to V71 -/

/-- S2: the playfield latch moves at the clock that starts at -17. -/
theorem test_playfield_latch :
    shows .tiaTick { State.reset with tia := { resetTia with x := -18, pfToLoad := 1 } } (fun t => t.tia.pfActive) =
      some 0 ∧
    shows .tiaTick { State.reset with tia := { resetTia with x := -17, pfToLoad := 1 } } (fun t => t.tia.pfActive) =
      some 1 := by decide

/-- V69, V70: motion at the wrap, in time and late. -/
theorem test_motion :
    shows .tiaTick { State.reset with tia := { resetTia with
        x := 159, hmovePending := true, p0 := { resetPlayer with pos := 50, hm := 7 }
        p1 := { resetPlayer with pos := 50, hm := 8 }, m0 := { resetMissile with pos := 3, hm := 7 }
        m1 := { resetMissile with pos := 0, hm := 1 }, bl := { resetBall with pos := 159, hm := 15 } } }
      (fun t => ([t.tia.p0.pos, t.tia.p1.pos, t.tia.m0.pos, t.tia.m1.pos, t.tia.bl.pos], t.tia.comb, t.tia.x, t.tia.y)) =
      some ([43, 58, 156, 159, 0], false, -68, 1) ∧
    shows .tiaTick { State.reset with tia := { resetTia with
        x := 159, hmovePending := true, hmoveLate := true, p0 := { resetPlayer with pos := 43, hm := 7 }
        m1 := { resetMissile with pos := 159, hm := 1 } } }
      (fun t => (t.tia.p0.pos, t.tia.m1.pos, t.tia.comb, t.tia.hmovePending)) = some (28, 150, true, false) := by decide

/-- V64, V65, V66, V67: the pixels an object sets. -/
theorem test_object_pixels :
    ((List.range 160).filter fun x : Nat => playerBit ⟨21, 0, 0xA1, 0, 3, false, false, 0⟩ (x : Int)) =
      [21, 23, 28, 37, 39, 44, 53, 55, 60] ∧
    ((List.range 160).filter fun x : Nat => playerBit ⟨21, 0, 0xA1, 0, 5, false, false, 0⟩ (x : Int)) = [21, 22, 25, 26, 35, 36] ∧
    ((List.range 160).filter fun x : Nat => playerBit ⟨21, 0, 0xA1, 0, 0, true, false, 0⟩ (x : Int)) = [21, 26, 28] ∧
    ((List.range 160).filter fun x : Nat => playerBit ⟨156, 0, 0xFF, 0, 0, false, false, 0⟩ (x : Int)) =
      [0, 1, 2, 3, 156, 157, 158, 159] ∧
    ((List.range 160).filter fun x : Nat => ballBit ⟨158, 0, true, false, false, 2⟩ (x : Int)) = [0, 1, 158, 159] ∧
    ((List.range 160).filter fun x : Nat => missileBit ⟨100, 0, true, 1, false⟩ 1 (x : Int)) = [100, 101, 116, 117] := by decide

/-- V68: the missile lock. -/
theorem test_missile_lock :
    shows .tiaTick { State.reset with tia := { resetTia with
        p0 := { resetPlayer with pos := 156 }, m0 := { resetMissile with resmp := true } } } (fun t => t.tia.m0.pos) =
      some 0 ∧
    shows .tiaTick { State.reset with tia := { resetTia with
        p0 := { resetPlayer with pos := 156, nusiz := 7 }, m0 := { resetMissile with resmp := true } } }
      (fun t => t.tia.m0.pos) = some 12 := by decide

/-- V61, V62: playfield colours, score mode and priority, at the bits of columns 0 and 20. -/
theorem test_pixel_colour :
    pixelColour { resetTia with colupf := 0x44 } 79 ⟨false, false, false, false, false, true⟩ = 0x44 ∧
    pixelColour { resetTia with pfScore := true, p0 := { resetPlayer with colu := 0x1E } } 79
      ⟨false, false, false, false, false, true⟩ = 0x1E ∧
    pixelColour { resetTia with pfScore := true, p1 := { resetPlayer with colu := 0x8A } } 80
      ⟨false, false, false, false, false, true⟩ = 0x8A ∧
    pixelColour { resetTia with pfScore := true, pfPriority := true, colupf := 0x44 } 80
      ⟨true, false, false, false, false, true⟩ = 0x44 ∧
    pfBit { resetTia with pfActive := 0x80001 } 76 = true ∧ pfBit { resetTia with pfActive := 0x00001 } 80 = true ∧
    pfBit { resetTia with pfActive := 0x00001, pfReflect := true } 156 = true := by decide

/-- V75, V70: a blanked pixel is black and its collision is latched. -/
theorem test_blanked_pixel :
    shows .tiaTick { State.reset with tia := { resetTia with
        x := 2, vblankBlank := true, pfActive := 1, p0 := { resetPlayer with pos := 2, grpNew := 0x80 } } }
      (fun t => (t.tia.cx, t.tia.fb)) = some ({ noCollisions with p0pf := true }, [(11, 0xFF)]) := by decide

/-! ## Sound: V101 to V105 -/

/-- V101 to V103: single generator clocks, the frame of cycle 54, and a full buffer. -/
theorem test_sound :
    (Channel.clock { resetChannel with audc := 1 }).poly4 = 0x7 ∧
    (Channel.clock { resetChannel with audc := 4 }).out = true ∧
    (Channel.clock { resetChannel with audc := 2 }).sub = 1 ∧
    (Channel.clock { resetChannel with audc := 4, audf := 2 }).divCount = 1 ∧
    shows .apuTick { State.reset with cycles := 54, apu := { resetApu with
        clk := 15, acc := 480, n := 26, ch0 := { resetChannel with out := true, audv := 15 }
        ch1 := { resetChannel with out := true, audv := 15 } } } (fun t => (t.apu.buf, t.apu.acc, t.apu.n, t.apu.clk)) =
      some ([0x97, 0x50, 0x97, 0x50], 0, 0, 16) ∧
    shows .apuTick { State.reset with tvFormat := .pal, cycles := 26 } (fun t => t.apu.buf.length) = some 4 := by decide

/-- V105: whole frames only. -/
theorem test_read_sound :
    shows (.readSound 10) { State.reset with apu := { resetApu with
        buf := [0, 0, 0, 0, 0x7D, 0x15, 0x7D, 0x15, 0x21, 0x22, 0x21, 0x22] } } (fun t => (t.reply, t.apu.buf)) =
      some (.bytes [0, 0, 0, 0, 0x7D, 0x15, 0x7D, 0x15], [0x21, 0x22, 0x21, 0x22]) ∧
    shows (.readSound 4) State.reset (fun t => t.reply) = some (.bytes []) := by decide

/-! ## Scheduler and host: V95 to V97, V110 to V115 -/

/-- One cycle from reset (R443): three colour clocks, one timer tick. -/
theorem test_cycle :
    shows .cycle State.reset (fun t => (t.cycles, t.tia.x, t.timer.sub, t.apu.clk, t.apu.n)) =
      some (1, -65, 1023, 1, 1) ∧
    shows (.run 0) State.reset (fun t => (t.cycles, t.tia.x)) = some (0, -68) := by decide

/-- V111: a stalled step runs one cycle and does not call the core. -/
theorem test_step :
    shows (.step [.wr 0x0080 0x55]) { beamAt 157 with tia := { resetTia with x := 157, waitHBlank := true } }
      (fun t => (t.cycles, t.tia.x, t.tia.waitHBlank, t.bus.ram)) = some (1, -68, false, []) ∧
    shows (.step [.wr 0x0080 0x55, .rd 0x0180, .run 2]) State.reset (fun t => (t.cycles, t.bus.ram, t.reply)) =
      some (2, [(0, 0x55)], .bytes [0x55]) := by decide

/-- V95: the latch moves at a sample; V96: the paddle thresholds; V97: charging at the threshold's cycle. -/
theorem test_input_sample :
    shows .inputSample { State.reset with tia := { resetTia with vblankLatch := true }, input :=
        { neutralInput with joy1 := { neutralJoystick with button := true } } }
      (fun t => (t.io.inptLatch0, t.io.inptLatch1)) = some (true, false) ∧
    [-135, -134, -1, 0, 1, 100, 135].map paddleThreshold = [0, 1, 188, 190, 191, 330, 380] ∧
    shows .inputSample { State.reset with mode0 := .paddle, cycles := 15439, io := { resetIo with paddleStart := 1000 } }
      (fun t => t.io.paddleCharged1) = some false ∧
    shows .inputSample { State.reset with mode0 := .paddle, cycles := 15440, io := { resetIo with paddleStart := 1000 } }
      (fun t => t.io.paddleCharged1) = some true := by decide

/-- V112: the flag is cleared by its query; R463: the range of a paddle position. -/
theorem test_host_queries :
    shows .frameReady { State.reset with tia := { resetTia with frameReady := true } }
      (fun t => (t.reply, t.tia.frameReady)) = some (.flag true, false) ∧
    shows (.setInput { neutralInput with select := true }) State.reset (fun t => t.input.select) = some true ∧
    shows (.setInput { neutralInput with paddle3 := ⟨false, 136⟩ }) State.reset (fun t => t.input.select) = none := by
  decide

/-- V113: the classification. -/
theorem test_format_classify :
    classify (List.replicate 25 262) = .ntsc ∧ classify (List.replicate 25 312) = .pal ∧
    classify (List.replicate 19 312) = .ntsc ∧
    classify (List.replicate 19 312 ++ 262 :: List.replicate 19 312) = .ntsc ∧
    classify (List.replicate 30 263) = .ntsc ∧ classify (List.replicate 20 264) = .pal ∧
    classify (40 :: List.replicate 20 312) = .pal ∧ classify [] = .ntsc := by decide

/-- V115: after a fatal error `STEP` changes nothing and the queries still answer. -/
theorem test_after_fatal :
    shows (.step [.run 1]) { State.reset with fatal := some ⟨.unrecognizedCartSize, 5000⟩ } (fun t => t.cycles) = some 0 ∧
    shows .readFb { State.reset with fatal := some ⟨.unrecognizedCartSize, 5000⟩ } (fun t => t.reply) =
      some (.framebuffer []) ∧
    shows .frameReady { State.reset with fatal := some ⟨.unrecognizedCartSize, 5000⟩ } (fun t => t.reply) =
      some (.flag false) := by decide

/-- A table word placed by `withFetchWord` is the one the next step runs: `WR PF1, 0xAA`. -/
theorem test_fetch :
    stepShows (State.reset.withFetchWord 24 0x200EAA) (fun t => (t.tia.pfToLoad, t.inbox)) = some (0x00550, []) ∧
    stepShows (State.reset.withFetchWord 8 0x04) (fun t => t.cycles) = some 1 ∧
    stepShows State.reset (fun t => t.inbox) = some [] := by decide

/-! ## Witnesses: for every obligation with hypotheses, states and operands that meet them -/

/-- A state that ended. -/
def ended : State := { State.reset with fatal := some ⟨.unrecognizedCartSize, 5000⟩ }

/-- A state whose variant is about to be detected: an 8 KB image under `Unknown`. -/
def undetected : State := cart 8192 [] .unknown

theorem witness_StepRunsDecodedOperation :
    (let s := { State.reset with inbox := [encode (.vsync 0x0000 0x02), encode .cycle] };
      (Instr.vsync 0x0000 0x02).wellFormed (servingTag (encode (.vsync 0x0000 0x02)) s) = true ∧
        s.inbox = encode (.vsync 0x0000 0x02) :: [encode .cycle]) ∧
    (let s := { undetected with inbox := [encode (.f8Bank0 0x1FF8 .rd)] };
      (Instr.f8Bank0 0x1FF8 .rd).wellFormed (servingTag (encode (.f8Bank0 0x1FF8 .rd)) s) = true) ∧
    State.reset.inbox = [] ∧
    0x11 < (0x12 : BitVec 8).toNat ∧
    ({ State.reset with inbox := [.event 0x12 .none] } : State).inbox = .event 0x12 .none :: [] := by decide

theorem witness_RowsMakeTheBusTransaction :
    State.reset.fatal = none ∧ operationOf (busRequest 0x0080 .rd) State.reset = some (.ramRd 0x0080) ∧
    operationOf (busRequest 0x1FF9 (.wr 0)) undetected = some (.f8Bank1 0x1FF9 (.wr 0)) := by decide

theorem witness_BusOperationsKeepTheBeam :
    operationOf (busRequest 0x0080 .rd) State.reset = some (.ramRd 0x0080) ∧
    shows (.ramRd 0x0080) State.reset (fun t => t.bus.lastReadAddr) = some 0x0080 ∧
    operationOf (busRequest 0x1FFF (.wr 0x55)) (cart 8192 [] (fresh .f8)) = some (.f8Wr 0x1FFF 0x55) ∧
    shows (.f8Wr 0x1FFF 0x55) (cart 8192 [] (fresh .f8)) (fun t => t.bus.lastWriteAddr) = some 0x1FFF := by decide

theorem witness_AfterFatal : ended.fatal ≠ none := by decide

theorem witness_BeforeTheDispatch :
    State.reset.fatal = none ∧ undetected.fatal = none ∧ undetected.bus.mapper = .unknown ∧
    4096 < undetected.image.size ∧ (cart 8192 [] (.m3f 1)).bus.mapper = .m3f 1 := by decide

theorem witness_DetectionIsSticky :
    (cart 8192 [] (fresh .f8)).bus.mapper.tag ≠ .unknown ∧
    (∀ image format mode0 mode1, Instr.ramWr 0x0080 0x55 ≠ .powerOn image format mode0 mode1) ∧
    (∀ snap image, Instr.ramWr 0x0080 0x55 ≠ .snapshotLoad snap image) ∧
    shows (.ramWr 0x0080 0x55) (cart 8192 [] (fresh .f8)) (fun t => t.bus.mapper.tag) = some .f8 :=
  ⟨by decide, by simp, by simp, by decide⟩

theorem witness_RamRows :
    State.reset.fatal = none ∧ (0x0DFF : Addr).toNat % 128 = (0x00FF : Addr).toNat % 128 ∧
    (0x0080 : Addr).toNat % 128 = 0 := by decide

/-- The write registers, the unassigned selects, the ports and the timer need a live state; `o` is the opened one. -/
theorem witness_live : State.reset.fatal = none ∧ opened 0x0000 (.wr 0x02) State.reset = State.reset := by decide

theorem witness_VsyncWrite : (beamAt 159).fatal = none ∧
    shows (.vsync 0x0000 0x02) (beamAt 159) (fun t => t.tia.vsync) = some true := by decide

theorem witness_VblankWrite : State.reset.fatal = none ∧
    shows (.vblank 0x0001 0xC2) State.reset (fun t => (t.tia.vblankLatch, t.tia.vblankDump)) = some (true, true) := by
  decide

theorem witness_TiaStrobes : (beamAt (-1)).fatal = none ∧ (beamAt 0).fatal = none ∧
    shows (.resp0 0x0010 0) (beamAt (-1)) (fun t => t.tia.p0.pos) = some 3 ∧
    shows (.resp0 0x0010 0) (beamAt 0) (fun t => t.tia.p0.pos) = some 5 := by decide

theorem witness_ShapeMotionAndGraphicsWrites : State.reset.fatal = none ∧
    shows (.colupf 0x0008 0xFF) State.reset (fun t => t.tia.colupf) = some 0xFF ∧
    shows (.pf2 0x000F 0xFF) State.reset (fun t => t.tia.pfToLoad) = some 0xFF000 := by decide

theorem witness_SoundRegisterWrites : State.reset.fatal = none ∧
    shows (.audf0 0x0017 0xFF) State.reset (fun t => t.apu.ch0.audf) = some 0x1F := by decide

theorem witness_ColourEnableAndClearWrites : State.reset.fatal = none ∧
    shows (.vdelp0 0x0025 0xFF) State.reset (fun t => t.tia.p0.vdel) = some true ∧
    shows (.colup0 0x0006 0xFF) State.reset (fun t => t.tia.p0.colu) = some 0xFF := by decide

theorem witness_UnassignedTiaRegisters : State.reset.fatal = none ∧
    shows (.tiaw3F 0x003F 0xFF) State.reset (fun t => t.anomalies) = some [⟨.unimplementedRegister, 0x3F, 0x003F⟩] ∧
    shows (.tiarF 0x000F) State.reset (fun t => t.anomalies) = some [⟨.unimplementedRegister, 0xF, 0x000F⟩] := by decide

theorem witness_CollisionReads : State.reset.fatal = none ∧
    shows (.cxblpf 0x0006) State.reset (fun t => t.bus.lastReadAddr) = some 0x0006 := by decide

theorem witness_InputLineReads :
    (State.reset.fatal = none ∧ State.reset.mode0 = .joystick) ∧
    (let s := { State.reset with mode0 := .paddle, mode1 := .keypad };
      s.fatal = none ∧ s.mode0 = .paddle ∧ s.mode1 = .keypad) ∧
    (let s := { State.reset with mode0 := .keypad, mode1 := .paddle };
      s.fatal = none ∧ s.mode0 = .keypad ∧ s.mode1 = .paddle) := by decide

theorem witness_InputPins :
    (State.reset.mode0 = .joystick ∧ State.reset.mode1 = .joystick) ∧
    (let s := { State.reset with mode0 := .paddle, mode1 := .paddle }; s.mode0 = .paddle ∧ s.mode1 = .paddle) ∧
    (let s := { State.reset with mode0 := .keypad, mode1 := .keypad };
      s.mode0 = .keypad ∧ s.mode1 = .keypad ∧ (pinsA s).getLsbD 4 = true ∧ (pinsA s).getLsbD 7 = true ∧
        (pinsA s).getLsbD 0 = true ∧ (pinsA s).getLsbD 3 = true) := by decide

theorem witness_PortRows : State.reset.fatal = none ∧
    shows (.swbcntWr 0x0283 0x34) State.reset (fun t => t.io.swbcnt) = some 0x34 ∧
    shows (.swacntRd 0x0281) State.reset (fun t => byteOf t.reply) = some (some 0x00) := by decide

theorem witness_TimerRows : State.reset.fatal = none ∧
    shows (.t1024t 0x0297 0x00) State.reset (fun t => t.timer) = some ⟨0xFF, .d1024, 1, true, true⟩ ∧
    shows (.t1024t 0x0297 0x01) State.reset (fun t => t.timer) = some ⟨0x00, .d1024, 1024, false, false⟩ := by decide

theorem witness_TimerTick :
    (State.reset.fatal = none ∧ 1 < State.reset.timer.sub) ∧
    (let s := { State.reset with timer := ⟨0, .d8, 1, false, false⟩ }; s.timer.sub = 1 ∧ s.timer.intim = 0) ∧
    (let s := { State.reset with timer := ⟨0xFF, .d8, 1, true, true⟩ }; s.timer.sub = 1 ∧ s.timer.intim ≠ 0) ∧
    ((1 : Byte) ≠ 0 ∧ 0 < Divider.d1.cycles ∧ 1023 < Divider.d1024.cycles) := by decide

theorem witness_PlainVariantRows :
    (undetected.fatal = none ∧ (opened 0x1000 .rd undetected).bus.mapper = .unknown ∧
      (opened 0x1FFA (.wr 0) undetected).bus.mapper = .unknown) ∧
    ((cart 8192 [] (.m3f 3)).fatal = none ∧ (opened 0x1800 .rd (cart 8192 [] (.m3f 3))).bus.mapper = .m3f 3 ∧
      (opened 0x1FFF (.wr 0) (cart 8192 [] (.m3f 3))).bus.mapper = .m3f 3) ∧
    ((opened 0x1000 .rd (cart 8192 [] (.fe 1))).bus.mapper = .fe 1 ∧
      (opened 0x1000 (.wr 0) (cart 8192 [] (.fe 1))).bus.mapper = .fe 1) ∧
    ((opened 0x13FF .rd (cart 2048 [] (.c0 []))).bus.mapper = .c0 [] ∧
      (opened 0x1400 (.wr 1) (cart 2048 [] (.c0 []))).bus.mapper = .c0 []) := by decide

theorem witness_StdBankRows :
    undetected.fatal = none ∧ (opened 0x1FF8 .rd undetected).bus.mapper = .std ⟨.f8, 0, false, []⟩ ∧
    (opened 0x1FF6 (.wr 0) (cart 16384 [] (fresh .f6))).bus.mapper = .std ⟨.f6, 0, false, []⟩ ∧
    (opened 0x1FFB .rd (cart 32768 [] (fresh .f4))).bus.mapper = .std ⟨.f4, 0, false, []⟩ := by decide

theorem witness_StdWindowRows :
    (cart 8192 [] (.std ⟨.f8, 1, true, []⟩)).fatal = none ∧
    (opened 0x107F .rd (cart 8192 [] (.std ⟨.f8, 1, true, []⟩))).bus.mapper = .std ⟨.f8, 1, true, []⟩ ∧
    (opened 0x107F (.wr 0) (cart 16384 [] (.std ⟨.f6, 3, false, []⟩))).bus.mapper = .std ⟨.f6, 3, false, []⟩ ∧
    (opened 0x1080 .rd (cart 32768 [] (.std ⟨.f4, 7, true, []⟩))).bus.mapper = .std ⟨.f4, 7, true, []⟩ := by decide

theorem witness_FaAndF0Rows :
    ((cart 12288 [] (.fa ⟨2, []⟩)).fatal = none ∧
      (opened 0x10FF .rd (cart 12288 [] (.fa ⟨2, []⟩))).bus.mapper = .fa ⟨2, []⟩ ∧
      (opened 0x1FFA (.wr 0) (cart 12288 [] (.fa ⟨2, []⟩))).bus.mapper = .fa ⟨2, []⟩) ∧
    ((opened 0x1FF0 .rd (cart 65536 [] (.f0 15))).bus.mapper = .f0 15 ∧
      (opened 0x1FF0 (.wr 0) (cart 65536 [] (.f0 14))).bus.mapper = .f0 14 ∧ (15 : Nat) % 16 = 15) := by decide

theorem witness_E0Rows :
    (cart 8192 [] (fresh .e0)).fatal = none ∧
    (opened 0x1FE7 .rd (cart 8192 [] (fresh .e0))).bus.mapper = .e0 ⟨0, 0, 0⟩ ∧
    (opened 0x1FF7 (.wr 0) (cart 8192 [] (fresh .e0))).bus.mapper = .e0 ⟨0, 0, 0⟩ ∧
    (fun (b : Nat) (m : E0) => { m with slice2 := b }) ((0x1FF7 : Addr).toNat % 8) ⟨0, 0, 0⟩ = ⟨0, 0, 7⟩ := by decide

theorem witness_M3fBankRow :
    ((cart 8192 [] (.m3f 1)).fatal = none ∧ (cart 8192 [] (.m3f 1)).bus.mapper = .m3f 1 ∧ a13 0x003F ≤ 0x003F ∧
      (opened 0x003F (.wr 3) (cart 8192 [] (.m3f 1))).bus.mapper = .m3f 3) ∧
    (undetected.fatal = none ∧ undetected.bus.mapper = .unknown ∧ undetected.image.size = 8192 ∧ a13 0x203F = 0x003F ∧
      a13 undetected.bus.lastWriteAddr ≠ 0x003E ∧ a13 undetected.bus.lastWriteAddr ≠ 0x0040) := by decide

theorem witness_MapperTicks :
    (State.reset.fatal = none ∧ State.reset.bus.mapper.tag ≠ .fe ∧ State.reset.bus.mapper.tag ≠ .dpc ∧
      State.reset.bus.mapper.tag ≠ .ar66) ∧
    ((cart 8192 [] (.fe 1)).fatal = none ∧ (cart 8192 [] (.fe 1)).bus.mapper = .fe 1) ∧
    ((cart 10240 [] (fresh .dpc)).fatal = none ∧
      (cart 10240 [] (fresh .dpc)).bus.mapper = .dpc ⟨0, resetPointers, 1, 0⟩) ∧
    ((cart 8448 [] (fresh .ar66)).fatal = none ∧
      (cart 8448 [] (fresh .ar66)).bus.mapper = .ar66 ⟨[], 0, 0, false, 0, 0, 0⟩) := by decide

theorem witness_E7Rows :
    (cart 16384 [] (.e7 ⟨6, 3, [], []⟩)).fatal = none ∧
    (opened 0x17FF .rd (cart 16384 [] (.e7 ⟨6, 3, [], []⟩))).bus.mapper = .e7 ⟨6, 3, [], []⟩ ∧
    (opened 0x13FF .rd (cart 16384 [] (.e7 ⟨8, 0, [], []⟩))).bus.mapper = .e7 ⟨8, 0, [], []⟩ ∧
    (opened 0x1FEB (.wr 0) (cart 16384 [] (.e7 ⟨8, 0, [], []⟩))).bus.mapper = .e7 ⟨8, 0, [], []⟩ := by decide

theorem witness_DpcRomRows :
    (cart 10240 [] (fresh .dpc)).fatal = none ∧
    (opened 0x1FF9 .rd (cart 10240 [] (fresh .dpc))).bus.mapper = .dpc ⟨0, resetPointers, 1, 0⟩ ∧
    (opened 0x1040 .rd (cart 10240 [] (fresh .dpc))).bus.mapper = .dpc ⟨0, resetPointers, 1, 0⟩ ∧
    (opened 0x103F (.wr 0) (cart 10240 [] (fresh .dpc))).bus.mapper = .dpc ⟨0, resetPointers, 1, 0⟩ := by decide

/-- Pointer 0 at its `top`, and pointer 7 in music mode at its `bottom`. -/
theorem witness_DpcReadRows :
    (let s := cart 10240 [] (dpcWith 0 ⟨5, 2, 0x0005, 0, false⟩);
      s.fatal = none ∧ (opened 0x1010 .rd s).bus.mapper = dpcWith 0 ⟨5, 2, 0x0005, 0, false⟩ ∧
      (0x1010 : Addr).toNat % 8 = 0 ∧
      shows (.dpcRdFlag 0x1038) s (fun t => (byteOf t.reply, t.bus.mapper)) =
        some (some 0xFF, .dpc ⟨0, resetPointers.set 0 ⟨5, 2, 0x0004, 0xFF, false⟩, 0x03, 0⟩)) ∧
    (let s := cart 10240 [] (dpcWith 7 ⟨5, 2, 0x1002, 0xFF, true⟩);
      s.fatal = none ∧ (opened 0x1007 .rd s).bus.mapper = dpcWith 7 ⟨5, 2, 0x1002, 0xFF, true⟩ ∧
      (0x1007 : Addr).toNat % 8 = 7 ∧
      shows (.dpcRdMusic 0x1007) s (fun t => (byteOf t.reply, t.bus.mapper)) =
        some (some 0x00, .dpc ⟨0, resetPointers.set 7 ⟨5, 2, 0x1002, 0x00, true⟩, 0x03, 0⟩)) := by decide

theorem witness_DpcWriteRows :
    (let s := cart 10240 [] (dpcWith 7 ⟨5, 2, 0x1002, 0xFF, true⟩);
      s.fatal = none ∧ (opened 0x1057 (.wr 9) s).bus.mapper = dpcWith 7 ⟨5, 2, 0x1002, 0xFF, true⟩ ∧
      (0x1057 : Addr).toNat % 8 = 7 ∧ (resetPointers.set 7 ⟨5, 2, 0x1002, 0xFF, true⟩).get 7 =
        ⟨5, 2, 0x1002, 0xFF, true⟩) ∧
    (let s := cart 10240 [] (fresh .dpc);
      (opened 0x1058 (.wr 0x10) s).bus.mapper = .dpc ⟨0, resetPointers, 1, 0⟩ ∧ (0x1058 : Addr).toNat % 8 = 0) := by
  decide

theorem witness_DpcTick :
    (let s := cart 10240 [] (.dpc ⟨0, resetPointers, 1, 58⟩);
      s.fatal = none ∧ s.bus.mapper = .dpc ⟨0, resetPointers, 1, 58⟩) ∧
    (let p : Pointer := ⟨3, 1, 0x1003, 0x00, true⟩;
      let s := cart 10240 [] (.dpc ⟨0, resetPointers.set 5 p, 1, 59⟩);
      s.bus.mapper = .dpc ⟨0, resetPointers.set 5 p, 1, 59⟩ ∧ (resetPointers.set 5 p).get 5 = p ∧ p.musicMode = true ∧
      (resetPointers.get 7).musicMode = false) := by decide

theorem witness_ArRows :
    (0x1E : Byte).extractLsb' 2 3 = BitVec.ofNat 3 7 ∧ (0x00 : Byte).extractLsb' 2 3 = BitVec.ofNat 3 0 ∧
    (0x17FF : Addr).getLsbD 11 = false ∧ (0x1800 : Addr).getLsbD 11 = true ∧
    (let s := cart 8448 [] (.ar66 ⟨[], 0x1E, 0, true, 0, 0, 0⟩);
      s.fatal = none ∧ (opened 0x10FF .rd s).bus.mapper = .ar66 ⟨[], 0x1E, 0, true, 0, 0, 0⟩ ∧
      (opened 0x1FF8 (.wr 0) s).bus.mapper = .ar66 ⟨[], 0x1E, 0, true, 0, 0, 0⟩) := by decide

theorem witness_ArTick :
    (let s := { cart 8448 [] .unknown with
        bus := { resetBus with mapper := .ar66 ⟨[], 0x1E, 0x55, true, 0x1234, 4, 0⟩, lastAccessAddr := 0x1234 } };
      s.fatal = none ∧ s.bus.mapper = .ar66 ⟨[], 0x1E, 0x55, true, 0x1234, 4, 0⟩ ∧
      s.bus.lastAccessAddr = 0x1234) := by decide

theorem witness_ArInitialize :
    (let s := cart 8448 [(0x2000, 0x34)] (fresh .ar66);
      s.fatal = none ∧ s.bus.mapper = .ar66 ⟨[], 0, 0, false, 0, 0, 0⟩ ∧ 6143 < s.image.size ∧ 0x2002 < s.image.size) ∧
    (State.reset.fatal = none ∧ State.reset.bus.mapper.tag ≠ .ar66) := by decide

theorem witness_TickBeamAndMotion :
    ((beamAt 158).fatal = none ∧ (beamAt 158).tia.x ≠ 159) ∧ ((beamAt 159).fatal = none ∧ (beamAt 159).tia.x = 159) ∧
    ({ beamAt 159 with tia := { resetTia with x := 159, hmovePending := true } } : State).tia.hmovePending = true := by
  decide

theorem witness_ObjectBits :
    (0 : Int) ≤ 0 ∧ (0 : Int) < 160 ∧ (0 : Int) / 4 = (0 : Nat) ∧ (159 : Int) < 160 ∧
    (159 : Int) / 4 = 20 + (19 : Nat) := by decide

theorem witness_TickCollisions :
    ((beamAt (-1)).fatal = none ∧ (beamAt (-1)).tia.x < 0) ∧ ((beamAt 0).fatal = none ∧ 0 ≤ (beamAt 0).tia.x) := by
  decide

theorem witness_TickPixel :
    (let t := { resetTia with pfPriority := true }; t.pfPriority = true) ∧ resetTia.pfPriority = false ∧
    (let s := { State.reset with tia := { resetTia with x := 159, y := 263 } };
      s.fatal = none ∧ 0 ≤ s.tia.x ∧ 0 ≤ s.tia.y ∧ s.tia.y < 264) ∧
    (let s := { State.reset with tia := { resetTia with x := 0, y := 264 } }; s.fatal = none ∧ 264 ≤ s.tia.y) ∧
    (let s := { State.reset with tia := { resetTia with x := 0, y := -1 } }; s.fatal = none ∧ s.tia.y < 0) := by decide

theorem witness_CyclePhaseIsKept :
    Instr.cycle ≠ .tiaTick ∧ (∀ snap image, Instr.cycle ≠ .snapshotLoad snap image) ∧
    ((beamAt 157).tia.x + 68) % 3 = 0 ∧ shows .cycle (beamAt 157) (fun t => t.tia.x) = some (-68) :=
  ⟨by decide, by simp, by decide, by decide⟩

theorem witness_ApuTick :
    (State.reset.fatal = none ∧ State.reset.apu.clk ≠ 37 ∧ State.reset.cycles % 27 = 0) ∧
    (let s := { State.reset with cycles := 28, apu := { resetApu with clk := 37 } };
      s.fatal = none ∧ s.apu.clk = 37 ∧ s.cycles % 27 ≠ 0) ∧
    State.reset.apu.buf.length ≤ 16380 := by decide

/-- A full buffer is a state too: the clause that drops a frame. -/
theorem witness_ApuTick_full :
    (let s := { State.reset with apu := { resetApu with buf := List.replicate 16384 0 } };
      s.fatal = none ∧ 16380 < s.apu.buf.length) :=
  ⟨rfl, Nat.lt_of_lt_of_eq (by decide : 16380 < 16384) (List.length_replicate (n := 16384) (a := (0 : Byte))).symm⟩

theorem witness_ChannelClock :
    (let c := { resetChannel with audf := 2, divCount := 1 }; c.divCount < c.audf) ∧
    (let c := { resetChannel with audc := 2, sub := 13 }; c.audf ≤ c.divCount ∧ c.sub + 1 < 15) ∧
    (let c := { resetChannel with audc := 2, sub := 14 }; c.audf ≤ c.divCount ∧ 15 ≤ c.sub + 1) ∧
    (let c := { resetChannel with audc := 0xC, sub := 2 }; c.audf ≤ c.divCount ∧ 3 ≤ c.sub + 1 ∧ 0xC ≤ c.audc) := by
  decide

theorem witness_NoiseSequences :
    (let c := { resetChannel with audc := 1 }; c.audc = 0x1 ∧ c.audf = 0 ∧ c.poly4 = 0xF) := by decide

theorem witness_CycleOrderAndLine : State.reset.fatal = none ∧ State.reset.tia.x = -68 ∧
    shows .cycle State.reset (fun t => t.cycles) = some 1 := by decide

theorem witness_RunAdds : State.reset.fatal = none ∧ State.reset.io.paddleStart ≤ State.reset.cycles := by decide

theorem witness_StepOperation :
    (State.reset.fatal = none ∧ State.reset.tia.waitHBlank = false) ∧
    (let s := { State.reset with tia := { resetTia with waitHBlank := true } };
      s.fatal = none ∧ s.tia.waitHBlank = true) ∧
    (runRequests [.wr 0x0080 0x55, .rd 0x0180] State.reset).map (fun r => r.1) = some [0x55] := by decide

/-- At the start of a line 76 stalled steps remain, at its last cycle one. -/
theorem witness_StallEnds :
    (let s := { State.reset with tia := { resetTia with waitHBlank := true } };
      s.fatal = none ∧ s.tia.waitHBlank = true ∧ -68 ≤ s.tia.x ∧ s.tia.x < 160 ∧ (s.tia.x + 68) % 3 = 0 ∧
        ((76 : Nat) : Int) = (160 - s.tia.x) / 3) ∧
    (let s := { State.reset with tia := { resetTia with x := 157, waitHBlank := true } };
      (s.tia.x + 68) % 3 = 0 ∧ ((1 : Nat) : Int) = (160 - s.tia.x) / 3 ∧
        (stepTimes [] 1 s).map (fun t => (t.tia.x, t.tia.waitHBlank)) = some (-68, false)) := by decide

theorem witness_InputSample :
    State.reset.fatal = none ∧ State.reset.mode0 ≠ .paddle ∧
    (let s := { State.reset with mode0 := .paddle, tia := { resetTia with vblankDump := true } };
      s.fatal = none ∧ s.mode0 = .paddle ∧ s.tia.vblankDump = true) ∧
    (let s := { State.reset with mode1 := .paddle };
      s.fatal = none ∧ s.mode1 = .paddle ∧ s.tia.vblankDump = false) := by decide

theorem witness_HostQueries :
    State.reset.fatal = none ∧
    (let i := { neutralInput with paddle0 := ⟨false, -136⟩ };
      ∃ p ∈ [i.paddle0, i.paddle1, i.paddle2, i.paddle3], p.pos < -135 ∨ 135 < p.pos) ∧
    (let i := { neutralInput with paddle0 := ⟨false, -135⟩, paddle3 := ⟨true, 135⟩ };
      ∀ p ∈ [i.paddle0, i.paddle1, i.paddle2, i.paddle3], -135 ≤ p.pos ∧ p.pos ≤ 135) := by decide

theorem witness_SnapshotRoundTrip : State.reset.ok = true ∧ State.reset.fatal = none := by decide

theorem witness_SnapshotLoadChecks : State.reset.fatal = none := rfl

theorem witness_PowerOn :
    (8192 : Nat) = (⟨8192, []⟩ : Image).size ∧
    exec (.powerOn ⟨8192, []⟩ .ntsc .joystick .joystick) ended =
      .next (finishPowerOn (detect (freshState ⟨8192, []⟩ .ntsc .joystick .joystick ended))) := ⟨rfl, rfl⟩

theorem witness_FatalAndCyclesAreKept :
    (∀ image format mode0 mode1, Instr.tiaTick ≠ .powerOn image format mode0 mode1) ∧
    (∀ snap image, Instr.tiaTick ≠ .snapshotLoad snap image) ∧ (∀ n, Instr.tiaTick ≠ .run n) ∧
    (∀ events, Instr.tiaTick ≠ .step events) ∧ Instr.tiaTick ≠ .cycle ∧
    shows .tiaTick State.reset (fun t => (t.cycles, t.fatal)) = some (0, none) :=
  ⟨by simp, by simp, by simp, by simp, by decide, by decide⟩

theorem witness_StepKeepsInvariant :
    (let s := { State.reset with
        inbox := [.write 0x0080 0x55, .event 0x0D (.power ⟨8192, [(8191, 0x10)]⟩ .ntsc .joystick .joystick)] };
      s.safe = true ∧ stepShows s (fun t => t.safe) = some true) := by decide

/-- The load of a saved state is a request the invariant admits. -/
theorem witness_StepKeepsInvariant_load :
    Request.ok (.event 0x0C (.snapshot { zeroSnapshot with version := Config.snapVersion } Image.empty)) = true := by
  simp only [Request.ok, Int.le_refl, decide_true, Bool.true_or, Bool.and_true]
  decide

end Sys2Proof.Tests
end

section
/-! The step and `STEP` of the core (R3, R4, R99, R440, R441): the decoder gives an issued operation back, every bus
request is a row whose meaning is the whole transaction, and no transaction ends the run. -/

namespace Sys2Proof.Laws.RoundTrip

open Sys2Proof.Machine

/-- Every constructor's lemma together: the decoder reads the request of any well-formed operation as that operation. -/
theorem statement_all : ∀ i, Statement i
  | .vsync a d => vsync a d | .vblank a d => vblank a d | .wsync a d => wsync a d | .rsync a d => rsync a d
  | .nusiz0 a d => nusiz0 a d | .nusiz1 a d => nusiz1 a d | .colup0 a d => colup0 a d | .colup1 a d => colup1 a d
  | .colupf a d => colupf a d | .colubk a d => colubk a d | .ctrlpf a d => ctrlpf a d | .refp0 a d => refp0 a d
  | .refp1 a d => refp1 a d | .pf0 a d => pf0 a d | .pf1 a d => pf1 a d | .pf2 a d => pf2 a d
  | .resp0 a d => resp0 a d | .resp1 a d => resp1 a d | .resm0 a d => resm0 a d | .resm1 a d => resm1 a d
  | .resbl a d => resbl a d | .audc0 a d => audc0 a d | .audc1 a d => audc1 a d | .audf0 a d => audf0 a d
  | .audf1 a d => audf1 a d | .audv0 a d => audv0 a d | .audv1 a d => audv1 a d | .grp0 a d => grp0 a d
  | .grp1 a d => grp1 a d | .enam0 a d => enam0 a d | .enam1 a d => enam1 a d | .enabl a d => enabl a d
  | .hmp0 a d => hmp0 a d | .hmp1 a d => hmp1 a d | .hmm0 a d => hmm0 a d | .hmm1 a d => hmm1 a d
  | .hmbl a d => hmbl a d | .vdelp0 a d => vdelp0 a d | .vdelp1 a d => vdelp1 a d | .vdelbl a d => vdelbl a d
  | .resmp0 a d => resmp0 a d | .resmp1 a d => resmp1 a d | .hmove a d => hmove a d | .hmclr a d => hmclr a d
  | .cxclr a d => cxclr a d | .tiaw2D a d => tiaw2D a d | .tiaw2E a d => tiaw2E a d | .tiaw2F a d => tiaw2F a d
  | .tiaw30 a d => tiaw30 a d | .tiaw31 a d => tiaw31 a d | .tiaw32 a d => tiaw32 a d | .tiaw33 a d => tiaw33 a d
  | .tiaw34 a d => tiaw34 a d | .tiaw35 a d => tiaw35 a d | .tiaw36 a d => tiaw36 a d | .tiaw37 a d => tiaw37 a d
  | .tiaw38 a d => tiaw38 a d | .tiaw39 a d => tiaw39 a d | .tiaw3A a d => tiaw3A a d | .tiaw3B a d => tiaw3B a d
  | .tiaw3C a d => tiaw3C a d | .tiaw3D a d => tiaw3D a d | .tiaw3E a d => tiaw3E a d | .tiaw3F a d => tiaw3F a d
  | .cxm0p a => cxm0p a | .cxm1p a => cxm1p a | .cxp0fb a => cxp0fb a | .cxp1fb a => cxp1fb a | .cxm0fb a => cxm0fb a
  | .cxm1fb a => cxm1fb a | .cxblpf a => cxblpf a | .cxppmm a => cxppmm a | .inpt0 a => inpt0 a | .inpt1 a => inpt1 a
  | .inpt2 a => inpt2 a | .inpt3 a => inpt3 a | .inpt4 a => inpt4 a | .inpt5 a => inpt5 a | .tiarE a => tiarE a
  | .tiarF a => tiarF a | .ramRd a => ramRd a | .ramWr a d => ramWr a d | .swchaRd a => swchaRd a
  | .swchaWr a d => swchaWr a d | .swacntRd a => swacntRd a | .swacntWr a d => swacntWr a d | .swchbRd a => swchbRd a
  | .swchbWr a d => swchbWr a d | .swbcntRd a => swbcntRd a | .swbcntWr a d => swbcntWr a d | .intim a => intim a
  | .timint a => timint a | .tim1t a d => tim1t a d | .tim8t a d => tim8t a d | .tim64t a d => tim64t a d
  | .t1024t a d => t1024t a d | .edgectl a d => edgectl a d | .unkRom a => unkRom a | .unkWr a d => unkWr a d
  | .f8Bank0 a c => f8Bank0 a c | .f8Bank1 a c => f8Bank1 a c | .f8Scw a d => f8Scw a d | .f8Scr a => f8Scr a
  | .f8Rom a => f8Rom a | .f8Wr a d => f8Wr a d | .f6Bank0 a c => f6Bank0 a c | .f6Bank1 a c => f6Bank1 a c
  | .f6Bank2 a c => f6Bank2 a c | .f6Bank3 a c => f6Bank3 a c | .f6Scw a d => f6Scw a d | .f6Scr a => f6Scr a
  | .f6Rom a => f6Rom a | .f6Wr a d => f6Wr a d | .f4Bank0 a c => f4Bank0 a c | .f4Bank1 a c => f4Bank1 a c
  | .f4Bank2 a c => f4Bank2 a c | .f4Bank3 a c => f4Bank3 a c | .f4Bank4 a c => f4Bank4 a c
  | .f4Bank5 a c => f4Bank5 a c | .f4Bank6 a c => f4Bank6 a c | .f4Bank7 a c => f4Bank7 a c | .f4Scw a d => f4Scw a d
  | .f4Scr a => f4Scr a | .f4Rom a => f4Rom a | .f4Wr a d => f4Wr a d | .faBank0 a c => faBank0 a c
  | .faBank1 a c => faBank1 a c | .faBank2 a c => faBank2 a c | .faRamw a c => faRamw a c | .faRamr a c => faRamr a c
  | .faRom a c => faRom a c | .f0Next a c => f0Next a c | .f0Rom a c => f0Rom a c | .e0S0 a c => e0S0 a c
  | .e0S1 a c => e0S1 a c | .e0S2 a c => e0S2 a c | .e0Rom a c => e0Rom a c | .m3fBank a d => m3fBank a d
  | .m3fRom a c => m3fRom a c | .feRom a c => feRom a c | .c0Ramr a c => c0Ramr a c | .c0Ramw a c => c0Ramw a c
  | .c0Rom a c => c0Rom a c | .e7Bank0 a c => e7Bank0 a c | .e7Bank1 a c => e7Bank1 a c | .e7Bank2 a c => e7Bank2 a c
  | .e7Bank3 a c => e7Bank3 a c | .e7Bank4 a c => e7Bank4 a c | .e7Bank5 a c => e7Bank5 a c
  | .e7Bank6 a c => e7Bank6 a c | .e7Ramon a c => e7Ramon a c | .e7Rbank0 a c => e7Rbank0 a c
  | .e7Rbank1 a c => e7Rbank1 a c | .e7Rbank2 a c => e7Rbank2 a c | .e7Rbank3 a c => e7Rbank3 a c
  | .e7LowRd a => e7LowRd a | .e7LowWr a d => e7LowWr a d | .e7R256w a c => e7R256w a c | .e7R256r a c => e7R256r a c
  | .e7Fixed a c => e7Fixed a c | .dpcBank0 a c => dpcBank0 a c | .dpcBank1 a c => dpcBank1 a c
  | .dpcRom a c => dpcRom a c | .dpcRdRng a => dpcRdRng a | .dpcRdMusic a => dpcRdMusic a
  | .dpcRdData a => dpcRdData a | .dpcRdGated a => dpcRdGated a | .dpcRdSwap a => dpcRdSwap a
  | .dpcRdRev a => dpcRdRev a | .dpcRdRor a => dpcRdRor a | .dpcRdRol a => dpcRdRol a | .dpcRdFlag a => dpcRdFlag a
  | .dpcWrTop a d => dpcWrTop a d | .dpcWrBottom a d => dpcWrBottom a d | .dpcWrLow a d => dpcWrLow a d
  | .dpcWrHigh a d => dpcWrHigh a d | .dpcWrRngReset a d => dpcWrRngReset a d | .dpcWrNotImpl a d => dpcWrNotImpl a d
  | .arLatch a c => arLatch a c | .arCtrl a c => arCtrl a c | .arMemRd a => arMemRd a | .arMemWr a d => arMemWr a d
  | .tiaTick => tiaTick | .timerTick => timerTick | .mapperTick => mapperTick | .apuTick => apuTick | .cycle => cycle
  | .run n => run n | .step es => step es | .frameReady => frameReady | .readFb => readFb
  | .readSound n => readSound n | .setInput i => setInput i | .snapshotSave => snapshotSave
  | .snapshotLoad p g => snapshotLoad p g | .powerOn g f m n => powerOn g f m n
  | .mapperResolve a w => mapperResolve a w | .mapperInit => mapperInit | .formatClassify l => formatClassify l
  | .inputSample => inputSample | .feTick => feTick | .dpcTick => dpcTick | .arTick => arTick
  | .ar66Initialize => ar66Initialize

end Sys2Proof.Laws.RoundTrip

namespace Sys2Proof.Machine

/-! ## The step, by what the oldest request stands for -/

/-- The operation an agent issues is the one the block takes from its request, if it is well-formed under the variant
that serves it. -/
theorem operationOf_encode {i : Instr} {s : State} (h : i.wellFormed (servingTag (encode i) s) = true) :
    operationOf (encode i) s = some i :=
  Laws.RoundTrip.statement_all i _ h

/-- Event codes above 0x11 are reserved, whatever the operand (R98, R99). -/
theorem decodeEvent_reserved {code : BitVec 8} (tag : Tag) (op : Operand) (h : 0x11 < code.toNat) :
    decodeEvent tag code op = none := by
  obtain ⟨k, hk⟩ : ∃ k, code.toNat = k + 18 := ⟨_, (Nat.sub_add_cancel h).symm⟩
  unfold decodeEvent
  rw [hk]
  cases op <;> rfl

/-- An event is decoded under the active variant. -/
theorem operationOf_event (code : BitVec 8) (op : Operand) (s : State) :
    operationOf (.event code op) s = decodeEvent s.bus.mapper.tag code op := rfl

theorem step_idle {s : State} (h : s.inbox = []) : step s = .next s := by
  simp only [step, h]

theorem step_of_operation {r : Request} {rest : List Request} {i : Instr} {s : State} (h : s.inbox = r :: rest)
    (hi : operationOf r s = some i) : step s = exec i { s with inbox := rest } := by
  simp only [step, h, hi]

theorem step_of_no_operation {r : Request} {rest : List Request} {s : State} (h : s.inbox = r :: rest)
    (hr : operationOf r s = none) : step s = .refused .notAnOperation := by
  simp only [step, h, hr]

end Sys2Proof.Machine

namespace Sys2Proof.Proofs

open Sys2Proof Sys2Proof.Machine

/-- Settles O3: the encoder and the decoder agree on the oldest request, and no reserved event code is an operation. -/
theorem stepRunsDecodedOperation : Obligations.StepRunsDecodedOperation := by
  refine ⟨fun s i rest hi h => ?_, fun s h => step_idle h, fun s code op rest hc h => ?_⟩
  · exact step_of_operation h (operationOf_encode hi)
  · exact step_of_no_operation h ((operationOf_event code op s).trans (decodeEvent_reserved _ op hc))

end Sys2Proof.Proofs

namespace Sys2Proof.Machine

/-! ## A row outside cartridge space is the bus transaction -/

theorem readCycle_busRead {addr : Addr} {serve : State → Byte × State} {s : State} (hl : s.fatal = none)
    (h : ∀ o, serve o = serveRead addr o) : readCycle addr serve s = .next (busRead addr s) := by
  rw [readCycle_live hl, h, busRead]

theorem writeCycle_busWrite {addr : Addr} {d : Byte} {serve : State → State} {s : State} (hl : s.fatal = none)
    (h : ∀ o, serve o = serveWrite addr d o) : writeCycle addr d serve s = .next (busWrite addr d s) := by
  rw [writeCycle_live hl, h, busWrite]

/-- The row that `TIAR` decodes to is the dispatch of the read select. -/
theorem exec_decodeTiaRead (addr : Addr) (s : State) :
    exec (decodeTiaRead addr) s = readCycle addr (fun o => tiaRead addr o) s := by
  unfold decodeTiaRead tiaReadRow tiaRead
  have hk := a4_lt addr
  generalize a4 addr = k at hk
  match k, hk with
  | 0, _ | 1, _ | 2, _ | 3, _ | 4, _ | 5, _ | 6, _ | 7, _ | 8, _ | 9, _ | 10, _ | 11, _ | 12, _ | 13, _
  | 14, _ | 15, _ => rfl
  | n + 16, h => exact absurd h (by omega)

/-- The row that `TIAW` decodes to is the dispatch of the write select. -/
theorem exec_decodeTiaWrite (addr : Addr) (d : Byte) (s : State) :
    exec (decodeTiaWrite addr d) s = writeCycle addr d (fun o => tiaWrite addr d o) s := by
  unfold decodeTiaWrite tiaWriteRow tiaWrite
  have hk := a6_lt addr
  generalize a6 addr = k at hk
  match k, hk with
  | 0, _ | 1, _ | 2, _ | 3, _ | 4, _ | 5, _ | 6, _ | 7, _ | 8, _ | 9, _ | 10, _ | 11, _ | 12, _
  | 13, _ | 14, _ | 15, _ | 16, _ | 17, _ | 18, _ | 19, _ | 20, _ | 21, _ | 22, _ | 23, _ | 24, _ | 25, _
  | 26, _ | 27, _ | 28, _ | 29, _ | 30, _ | 31, _ | 32, _ | 33, _ | 34, _ | 35, _ | 36, _ | 37, _ | 38, _
  | 39, _ | 40, _ | 41, _ | 42, _ | 43, _ | 44, _ | 45, _ | 46, _ | 47, _ | 48, _ | 49, _ | 50, _ | 51, _
  | 52, _ | 53, _ | 54, _ | 55, _ | 56, _ | 57, _ | 58, _ | 59, _ | 60, _ | 61, _ | 62, _ | 63, _ => rfl
  | n + 64, h => exact absurd h (by omega)

theorem exec_decodeRam {addr : Addr} {s : State} (acc : Access) (hl : s.fatal = none) (hr : region addr = .ram) :
    exec (decodeRam addr acc) s = .next (busTransaction addr acc s) := by
  cases acc with
  | rd => exact readCycle_busRead hl fun o => by simp only [serveRead, hr]
  | wr d => exact writeCycle_busWrite hl fun o => by simp only [serveWrite, hr]

/-- The row that an I/O read decodes to is the dispatch of the region (R360). -/
theorem exec_decodeIo_rd (addr : Addr) (s : State) :
    exec (decodeIo addr .rd) s = readCycle addr (fun o => ioRead addr o) s := by
  unfold decodeIo portReadRow ioRead
  cases timerSelect addr with
  | true => cases addr.getLsbD 0 <;> rfl
  | false =>
    have hk := a2_lt addr
    generalize a2 addr = k at hk
    match k, hk with
    | 0, _ | 1, _ | 2, _ | 3, _ => rfl

/-- The row that an I/O write decodes to is the dispatch of the region (R360). -/
theorem exec_decodeIo_wr (addr : Addr) (d : Byte) (s : State) :
    exec (decodeIo addr (.wr d)) s = writeCycle addr d (fun o => ioWrite addr d o) s := by
  unfold decodeIo portWriteRow timerWriteRow ioWrite
  have hk := a2_lt addr
  generalize a2 addr = k at hk
  cases timerSelect addr with
  | true =>
    cases addr.getLsbD 4 with
    | true =>
      match k, hk with
      | 0, _ | 1, _ | 2, _ | 3, _ => rfl
    | false => rfl
  | false =>
    match k, hk with
    | 0, _ | 1, _ | 2, _ | 3, _ => rfl

theorem exec_decodeIo {addr : Addr} {s : State} (acc : Access) (hl : s.fatal = none) (hr : region addr = .io) :
    exec (decodeIo addr acc) s = .next (busTransaction addr acc s) := by
  cases acc with
  | rd =>
    rw [exec_decodeIo_rd]
    exact readCycle_busRead hl fun o => by simp only [serveRead, hr]
  | wr d =>
    rw [exec_decodeIo_wr]
    exact writeCycle_busWrite hl fun o => by simp only [serveWrite, hr]

/-! ## A row of cartridge space is the bus transaction -/

/-- A live access to cartridge space, with the record `M` in charge after detection and hook. -/
structure ServedBy (M : Mapper) (addr : Addr) (acc : Access) (s : State) : Prop where
  live : s.fatal = none
  cart : region addr = .cart
  mapper : (opened addr acc s).bus.mapper = M

/-- A read row of the active variant is the bus read, if its effect is the variant's at this address. -/
theorem ServedBy.cartRead {α : Type} {pick : Mapper → Option α} {serve : α → State → Byte × State} {M : Mapper}
    {m : α} {addr : Addr} {s : State} (h : ServedBy M addr .rd s) (hp : pick M = some m)
    (he : ∀ o, o.bus.mapper = M → serve m o = mapperRead addr o) :
    cartRead pick addr serve s = .next (busTransaction addr .rd s) := by
  rw [cartRead_live h.live (h.mapper ▸ hp), he _ h.mapper, busTransaction, busRead]
  simp only [serveRead, h.cart]

/-- A write row of the active variant is the bus write, if its effect is the variant's at this address. -/
theorem ServedBy.cartWrite {α : Type} {pick : Mapper → Option α} {serve : α → State → State} {M : Mapper}
    {m : α} {addr : Addr} {d : Byte} {s : State} (h : ServedBy M addr (.wr d) s) (hp : pick M = some m)
    (he : ∀ o, o.bus.mapper = M → serve m o = mapperWrite addr d o) :
    cartWrite pick addr d serve s = .next (busTransaction addr (.wr d) s) := by
  rw [cartWrite_live h.live (h.mapper ▸ hp), he _ h.mapper, busTransaction, busWrite]
  simp only [serveWrite, h.cart]

/-- A row for both kinds of access: both effects are the variant's at this address. -/
theorem ServedBy.cartAccess {α : Type} {pick : Mapper → Option α} {onRead : α → State → Byte × State}
    {onWrite : α → Byte → State → State} {M : Mapper} {m : α} {addr : Addr} {acc : Access} {s : State}
    (h : ServedBy M addr acc s) (hp : pick M = some m)
    (hr : ∀ o, o.bus.mapper = M → onRead m o = mapperRead addr o)
    (hw : ∀ d o, o.bus.mapper = M → onWrite m d o = mapperWrite addr d o) :
    cartAccess pick addr acc onRead onWrite s = .next (busTransaction addr acc s) := by
  cases acc with
  | rd => exact h.cartRead hp hr
  | wr d => exact h.cartWrite hp (hw d)

/-- A decoder's choice between two rows: each in its own case. -/
theorem exec_ite {p : Prop} [Decidable p] {i j : Instr} {s : State} {r : Host.Outcome State Fault Refusal}
    (hi : p → exec i s = r) (hj : ¬ p → exec j s = r) : exec (if p then i else j) s = r := by
  split
  next h => exact hi h
  next h => exact hj h

/-- Installing the record that is active changes nothing. -/
theorem State.setMapper_self {M : Mapper} {s : State} (h : s.bus.mapper = M) : s.setMapper M = s := by
  subst h
  rfl

/-! ### The standard family (R151 to R156) -/

/-- The bank-select windows lie above the superchip's. -/
theorem StdKind.hot_ge (k : StdKind) : 0x1FF4 ≤ k.hot := by cases k <;> decide

theorem pickStd_of_kind {m : Std} {k : StdKind} (hk : m.kind = k) : pickStd k (.std m) = some m := if_pos hk

theorem Std.touch_hot {m : Std} {addr : Addr} {b : Nat} (ha : a13 addr = m.kind.hot + b) (hb : b < m.kind.nbanks) :
    m.touch addr = m.select b := by
  rw [Std.touch, if_pos ((hotspot_iff _ _).2 (by omega)), ha, Nat.add_sub_cancel_left]

theorem Std.touch_cold {m : Std} {addr : Addr} (h : m.kind.hotspot (a13 addr) = false) : m.touch addr = m :=
  if_neg (ne_true_of_eq_false h)

section
variable {k : StdKind} {m : Std} {addr : Addr} {d : Byte} {s : State}

theorem ServedBy.stdBank {acc : Access} (h : ServedBy (.std m) addr acc s) (hk : m.kind = k) (b : Nat)
    (hb : b < k.nbanks) (ha : a13 addr = k.hot + b) :
    Machine.cartAccess (pickStd k) addr acc (stdBankRead b addr) (stdBankWrite b) s =
      .next (busTransaction addr acc s) := by
  have hot := k.hot_ge
  have hw : within 0x1080 0x10FF (a13 addr) = false := (within_eq_false _ _ _).2 (by omega)
  have hd : ¬ a13 addr ≤ 0x107F := by omega
  have ht : m.touch addr = m.select b := by subst hk; exact Std.touch_hot ha hb
  refine h.cartAccess (pickStd_of_kind hk) (fun o ho => ?_) (fun d o ho => ?_)
  · simp only [mapperRead, ho, stdRead, hw, ht, stdRomRead, hd, decide_false, Bool.and_false, Bool.false_eq_true,
      if_false, stdBankRead]
  · simp only [mapperWrite, ho, stdWrite, if_neg hd, ht, stdBankWrite]

theorem ServedBy.stdScr (h : ServedBy (.std m) addr .rd s) (hk : m.kind = k)
    (ha : within 0x1080 0x10FF (a13 addr) = true) :
    Machine.cartRead (pickStd k) addr (stdScRead addr) s = .next (busTransaction addr .rd s) :=
  h.cartRead (pickStd_of_kind hk) fun o ho => by simp only [mapperRead, ho, stdRead, ha, if_true]

theorem ServedBy.stdRom (h : ServedBy (.std m) addr .rd s) (hk : m.kind = k) (hc : k.hotspot (a13 addr) = false)
    (ha : ¬ within 0x1080 0x10FF (a13 addr) = true) :
    Machine.cartRead (pickStd k) addr (stdRomRead addr) s = .next (busTransaction addr .rd s) :=
  h.cartRead (pickStd_of_kind hk) fun o ho => by
    simp only [mapperRead, ho, stdRead, if_neg ha, Std.touch_cold (hk ▸ hc), State.setMapper_self ho]

theorem ServedBy.stdScw (h : ServedBy (.std m) addr (.wr d) s) (hk : m.kind = k) (ha : a13 addr ≤ 0x107F) :
    Machine.cartWrite (pickStd k) addr d (stdScWrite addr d) s = .next (busTransaction addr (.wr d) s) :=
  h.cartWrite (pickStd_of_kind hk) fun o ho => by simp only [mapperWrite, ho, stdWrite, if_pos ha]

theorem ServedBy.stdWr (h : ServedBy (.std m) addr (.wr d) s) (hk : m.kind = k) (hc : k.hotspot (a13 addr) = false)
    (ha : ¬ a13 addr ≤ 0x107F) :
    Machine.cartWrite (pickStd k) addr d keepState s = .next (busTransaction addr (.wr d) s) :=
  h.cartWrite (pickStd_of_kind hk) fun o ho => by
    simp only [mapperWrite, ho, stdWrite, if_neg ha, Std.touch_cold (hk ▸ hc), State.setMapper_self ho, keepState]

end

section
variable {m : Std} {addr : Addr} {acc : Access} {s : State}

theorem ServedBy.decodeF8 (h : ServedBy (.std m) addr acc s) (hk : m.kind = .f8) :
    exec (decodeF8 addr acc) s = .next (busTransaction addr acc s) := by
  refine exec_ite (fun ha => h.stdBank hk 0 (by decide) ha) fun _ => ?_
  refine exec_ite (fun ha => h.stdBank hk 1 (by decide) ha) fun _ => ?_
  have hc : StdKind.f8.hotspot (a13 addr) = false := by
    rw [Bool.eq_false_iff, Ne, hotspot_f8]
    omega
  cases acc with
  | rd => exact exec_ite (h.stdScr hk) (h.stdRom hk hc)
  | wr d => exact exec_ite (h.stdScw hk) (h.stdWr hk hc)

theorem ServedBy.decodeF6 (h : ServedBy (.std m) addr acc s) (hk : m.kind = .f6) :
    exec (decodeF6 addr acc) s = .next (busTransaction addr acc s) := by
  refine exec_ite (fun ha => h.stdBank hk 0 (by decide) ha) fun _ => ?_
  refine exec_ite (fun ha => h.stdBank hk 1 (by decide) ha) fun _ => ?_
  refine exec_ite (fun ha => h.stdBank hk 2 (by decide) ha) fun _ => ?_
  refine exec_ite (fun ha => h.stdBank hk 3 (by decide) ha) fun _ => ?_
  have hc : StdKind.f6.hotspot (a13 addr) = false := by
    rw [Bool.eq_false_iff, Ne, hotspot_f6]
    omega
  cases acc with
  | rd => exact exec_ite (h.stdScr hk) (h.stdRom hk hc)
  | wr d => exact exec_ite (h.stdScw hk) (h.stdWr hk hc)

theorem ServedBy.decodeF4 (h : ServedBy (.std m) addr acc s) (hk : m.kind = .f4) :
    exec (decodeF4 addr acc) s = .next (busTransaction addr acc s) := by
  refine exec_ite (fun ha => h.stdBank hk 0 (by decide) ha) fun _ => ?_
  refine exec_ite (fun ha => h.stdBank hk 1 (by decide) ha) fun _ => ?_
  refine exec_ite (fun ha => h.stdBank hk 2 (by decide) ha) fun _ => ?_
  refine exec_ite (fun ha => h.stdBank hk 3 (by decide) ha) fun _ => ?_
  refine exec_ite (fun ha => h.stdBank hk 4 (by decide) ha) fun _ => ?_
  refine exec_ite (fun ha => h.stdBank hk 5 (by decide) ha) fun _ => ?_
  refine exec_ite (fun ha => h.stdBank hk 6 (by decide) ha) fun _ => ?_
  refine exec_ite (fun ha => h.stdBank hk 7 (by decide) ha) fun _ => ?_
  have hc : StdKind.f4.hotspot (a13 addr) = false := by
    rw [Bool.eq_false_iff, Ne, hotspot_f4]
    omega
  cases acc with
  | rd => exact exec_ite (h.stdScr hk) (h.stdRom hk hc)
  | wr d => exact exec_ite (h.stdScw hk) (h.stdWr hk hc)

end

/-! ### The simple variants (R149, R150, R160 to R189) -/

theorem ServedBy.decodeUnknown {addr : Addr} {acc : Access} {s : State} (h : ServedBy .unknown addr acc s) :
    exec (decodeUnknown addr acc) s = .next (busTransaction addr acc s) := by
  cases acc with
  | rd => exact h.cartRead rfl fun o ho => by simp only [mapperRead, ho]
  | wr d => exact h.cartWrite rfl fun o ho => by simp only [mapperWrite, ho, keepState]

section
variable {m : Fa} {addr : Addr} {acc : Access} {s : State}

theorem Fa.touch_hot {b : Nat} (ha : a13 addr = 0x1FF8 + b) (hb : b < 3) : m.touch addr = m.select b := by
  rw [Fa.touch, if_pos ((within_iff _ _ _).2 (by omega)), ha, Nat.add_sub_cancel_left]

theorem Fa.touch_cold (h : ¬ (0x1FF8 ≤ a13 addr ∧ a13 addr ≤ 0x1FFA)) : m.touch addr = m :=
  if_neg (mt (within_iff _ _ _).1 h)

theorem ServedBy.faBank (h : ServedBy (.fa m) addr acc s) (b : Nat) (hb : b < 3) (ha : a13 addr = 0x1FF8 + b) :
    Machine.cartAccess pickFa addr acc (faBankRead b addr) (faBankWrite b) s = .next (busTransaction addr acc s) := by
  have h1 : ¬ a13 addr ≤ 0x10FF := by omega
  have h2 : ¬ a13 addr ≤ 0x11FF := by omega
  refine h.cartAccess rfl (fun o ho => ?_) (fun d o ho => ?_)
  · simp only [mapperRead, ho, faRead, if_neg h1, if_neg h2, Fa.touch_hot ha hb, faBankRead]
  · simp only [mapperWrite, ho, faWrite, if_neg h1, Fa.touch_hot ha hb, faBankWrite]

theorem ServedBy.decodeFA (h : ServedBy (.fa m) addr acc s) :
    exec (decodeFA addr acc) s = .next (busTransaction addr acc s) := by
  refine exec_ite (fun ha => h.faBank 0 (by decide) ha) fun _ => ?_
  refine exec_ite (fun ha => h.faBank 1 (by decide) ha) fun _ => ?_
  refine exec_ite (fun ha => h.faBank 2 (by decide) ha) fun _ => ?_
  have hc : m.touch addr = m := Fa.touch_cold (by omega)
  refine exec_ite (fun h1 => ?ramw) fun h1 => exec_ite (fun h2 => ?ramr) fun h2 => ?rom
  case ramw =>
    exact h.cartAccess rfl (fun o ho => by simp only [mapperRead, ho, faRead, if_pos h1])
      (fun d o ho => by simp only [mapperWrite, ho, faWrite, if_pos h1])
  all_goals
    have hw : ∀ d o, o.bus.mapper = .fa m → storeNothing m d o = mapperWrite addr d o := fun d o ho => by
      simp only [mapperWrite, ho, faWrite, if_neg h1, hc, State.setMapper_self ho, storeNothing]
  case ramr =>
    exact h.cartAccess rfl (fun o ho => by simp only [mapperRead, ho, faRead, if_neg h1, if_pos h2]) hw
  case rom =>
    exact h.cartAccess rfl
      (fun o ho => by simp only [mapperRead, ho, faRead, if_neg h1, if_neg h2, hc, State.setMapper_self ho]) hw

end

theorem ServedBy.decodeF0 {bank : Nat} {addr : Addr} {acc : Access} {s : State} (h : ServedBy (.f0 bank) addr acc s) :
    exec (decodeF0 addr acc) s = .next (busTransaction addr acc s) := by
  refine exec_ite (fun ha => ?_) fun ha => ?_
  · exact h.cartAccess rfl (fun o ho => by simp only [mapperRead, ho, f0Read, if_pos ha])
      (fun d o ho => by simp only [mapperWrite, ho, f0Write, if_pos ha])
  · exact h.cartAccess rfl (fun o ho => by simp only [mapperRead, ho, f0Read, if_neg ha])
      (fun d o ho => by simp only [mapperWrite, ho, f0Write, if_neg ha, storeNothing])

section
variable {m : E0} {addr : Addr} {acc : Access} {s : State}

theorem ServedBy.e0Select (h : ServedBy (.e0 m) addr acc s) (f : E0 → E0) (hf : m.touch addr = f m) :
    Machine.cartAccess pickE0 addr acc (e0SelectRead f addr) (e0SelectWrite f) s =
      .next (busTransaction addr acc s) :=
  h.cartAccess rfl (fun o ho => by simp only [mapperRead, ho, e0Read, hf, e0SelectRead])
    (fun d o ho => by simp only [mapperWrite, ho, e0Write, hf, e0SelectWrite])

/-- The eight control addresses of slice `k`: `(a - 0x1FE0) / 8` is the slice and bits 2:0 are the bank (R170). -/
theorem E0.control_slice {k : Nat} (hk : k < 3) (ha : within (0x1FE0 + 8 * k) (0x1FE7 + 8 * k) (a13 addr) = true) :
    within 0x1FE0 0x1FF7 (a13 addr) = true ∧ (a13 addr - 0x1FE0) / 8 = k ∧ (a13 addr - 0x1FE0) % 8 = a3 addr := by
  rw [within_iff] at *
  unfold a13 a3 at *
  omega

theorem ServedBy.decodeE0 (h : ServedBy (.e0 m) addr acc s) :
    exec (decodeE0 addr acc) s = .next (busTransaction addr acc s) := by
  refine exec_ite (fun h0 => ?_) fun h0 => exec_ite (fun h1 => ?_) fun h1 => exec_ite (fun h2 => ?_) fun h2 => ?_
  · obtain ⟨hw, hk, hb⟩ := E0.control_slice (k := 0) (by decide) h0
    exact h.e0Select _ (by simp only [E0.touch, hw, hk, hb, if_true])
  · obtain ⟨hw, hk, hb⟩ := E0.control_slice (k := 1) (by decide) h1
    exact h.e0Select _ (by simp only [E0.touch, hw, hk, hb, if_true])
  · obtain ⟨hw, hk, hb⟩ := E0.control_slice (k := 2) (by decide) h2
    exact h.e0Select _ (by simp only [E0.touch, hw, hk, hb, if_true])
  have hc : m.touch addr = m := if_neg (by simp only [within_iff] at *; omega)
  exact h.cartAccess rfl (fun o ho => by simp only [mapperRead, ho, e0Read, hc, State.setMapper_self ho])
    (fun d o ho => by simp only [mapperWrite, ho, e0Write, hc, State.setMapper_self ho, storeNothing])

end

theorem ServedBy.m3fRom {bank : Nat} {addr : Addr} {acc : Access} {s : State} (h : ServedBy (.m3f bank) addr acc s) :
    exec (.m3fRom addr acc) s = .next (busTransaction addr acc s) :=
  h.cartAccess (pick := pick3F) rfl (fun o ho => by simp only [mapperRead, ho])
    (fun d o ho => by simp only [mapperWrite, ho, storeNothing])

theorem ServedBy.feRom {bank : Nat} {addr : Addr} {acc : Access} {s : State} (h : ServedBy (.fe bank) addr acc s) :
    exec (.feRom addr acc) s = .next (busTransaction addr acc s) :=
  h.cartAccess (pick := pickFe) rfl (fun o ho => by simp only [mapperRead, ho])
    (fun d o ho => by simp only [mapperWrite, ho, storeNothing])

theorem ServedBy.decodeC0 {ram : Mem} {addr : Addr} {acc : Access} {s : State} (h : ServedBy (.c0 ram) addr acc s) :
    exec (decodeC0 addr acc) s = .next (busTransaction addr acc s) := by
  refine exec_ite (fun h1 => ?_) fun h1 => exec_ite (fun h2 => ?_) fun h2 => ?_
  · have hw : ¬ within 0x1400 0x17FF (a13 addr) = true := by rw [within_iff]; omega
    exact h.cartAccess rfl (fun o ho => by simp only [mapperRead, ho, c0Read, if_pos h1])
      (fun d o ho => by simp only [mapperWrite, ho, c0Write, if_neg hw, storeNothing])
  · have hw : within 0x1400 0x17FF (a13 addr) = true := by rw [within_iff]; omega
    exact h.cartAccess rfl (fun o ho => by simp only [mapperRead, ho, c0Read, if_neg h1, if_pos h2])
      (fun d o ho => by simp only [mapperWrite, ho, c0Write, if_pos hw])
  · have hw : ¬ within 0x1400 0x17FF (a13 addr) = true := by rw [within_iff]; omega
    exact h.cartAccess rfl (fun o ho => by simp only [mapperRead, ho, c0Read, if_neg h1, if_neg h2])
      (fun d o ho => by simp only [mapperWrite, ho, c0Write, if_neg hw, storeNothing])

/-! ### E7 (R190 to R197) -/

section
variable {m : E7} {addr : Addr} {acc : Access} {s : State}

/-- A row of the control window, whose selection is `f`. -/
theorem ServedBy.e7Select (h : ServedBy (.e7 m) addr acc s) (f : E7 → E7) (ha : 0x1A00 ≤ a13 addr)
    (hf : m.touch addr = f m) :
    Machine.cartAccess pickE7 addr acc (e7SelectRead f addr) (e7SelectWrite f) s =
      .next (busTransaction addr acc s) := by
  have h1 : ¬ a13 addr ≤ 0x17FF := by omega
  have h2 : ¬ a13 addr ≤ 0x18FF := by omega
  have h3 : ¬ a13 addr ≤ 0x19FF := by omega
  exact h.cartAccess rfl
    (fun o ho => by simp only [mapperRead, ho, e7Read, if_neg h1, if_neg h2, if_neg h3, hf, e7SelectRead])
    (fun d o ho => by simp only [mapperWrite, ho, e7Write, if_neg h1, if_neg h2, hf, e7SelectWrite])

theorem E7.touch_bank {b : Nat} (ha : a13 addr = 0x1FE0 + b) (hb : b < 7) : m.touch addr = m.select b := by
  unfold E7.touch
  dsimp only
  rw [if_pos ((within_iff _ _ _).2 (by omega)), ha, Nat.add_sub_cancel_left]

theorem E7.touch_ramBank {b : Nat} (ha : a13 addr = 0x1FE8 + b) (hb : b < 4) : m.touch addr = m.selectRam b := by
  unfold E7.touch
  dsimp only
  rw [if_neg (by rw [within_iff]; omega), if_neg (by omega), if_pos ((within_iff _ _ _).2 (by omega)), ha,
    Nat.add_sub_cancel_left]

theorem E7.touch_ramOn (ha : a13 addr = 0x1FE7) : m.touch addr = m.select 8 := by
  unfold E7.touch
  dsimp only
  rw [if_neg (by rw [within_iff]; omega), if_pos ha]

theorem E7.touch_cold (h : ¬ (0x1FE0 ≤ a13 addr ∧ a13 addr ≤ 0x1FEB)) : m.touch addr = m := by
  unfold E7.touch
  dsimp only
  rw [if_neg (by rw [within_iff]; omega), if_neg (by omega), if_neg (by rw [within_iff]; omega)]

/-- The rows of a bank select, `0x1FE0 + b`. -/
theorem ServedBy.e7Bank (h : ServedBy (.e7 m) addr acc s) (b : Nat) (hb : b < 7) (ha : a13 addr = 0x1FE0 + b) :
    Machine.cartAccess pickE7 addr acc (e7SelectRead (E7.select b) addr) (e7SelectWrite (E7.select b)) s =
      .next (busTransaction addr acc s) :=
  h.e7Select _ (by omega) (E7.touch_bank ha hb)

/-- The rows of a RAM bank select, `0x1FE8 + b`. -/
theorem ServedBy.e7RamBank (h : ServedBy (.e7 m) addr acc s) (b : Nat) (hb : b < 4) (ha : a13 addr = 0x1FE8 + b) :
    Machine.cartAccess pickE7 addr acc (e7SelectRead (E7.selectRam b) addr) (e7SelectWrite (E7.selectRam b)) s =
      .next (busTransaction addr acc s) :=
  h.e7Select _ (by omega) (E7.touch_ramBank ha hb)

theorem ServedBy.decodeE7 (h : ServedBy (.e7 m) addr acc s) :
    exec (decodeE7 addr acc) s = .next (busTransaction addr acc s) := by
  refine exec_ite (fun ha => h.e7Bank 0 (by decide) ha) fun _ => ?_
  refine exec_ite (fun ha => h.e7Bank 1 (by decide) ha) fun _ => ?_
  refine exec_ite (fun ha => h.e7Bank 2 (by decide) ha) fun _ => ?_
  refine exec_ite (fun ha => h.e7Bank 3 (by decide) ha) fun _ => ?_
  refine exec_ite (fun ha => h.e7Bank 4 (by decide) ha) fun _ => ?_
  refine exec_ite (fun ha => h.e7Bank 5 (by decide) ha) fun _ => ?_
  refine exec_ite (fun ha => h.e7Bank 6 (by decide) ha) fun _ => ?_
  refine exec_ite (fun ha => h.e7Select _ (by omega) (E7.touch_ramOn ha)) fun _ => ?_
  refine exec_ite (fun ha => h.e7RamBank 0 (by decide) ha) fun _ => ?_
  refine exec_ite (fun ha => h.e7RamBank 1 (by decide) ha) fun _ => ?_
  refine exec_ite (fun ha => h.e7RamBank 2 (by decide) ha) fun _ => ?_
  refine exec_ite (fun ha => h.e7RamBank 3 (by decide) ha) fun _ => ?_
  have hc : m.touch addr = m := E7.touch_cold (by omega)
  refine exec_ite (fun h1 => ?low) fun h1 => exec_ite (fun h2 => ?ramw) fun h2 => ?_
  case low =>
    cases acc with
    | rd => exact h.cartRead rfl fun o ho => by simp only [mapperRead, ho, e7Read, if_pos h1]
    | wr d => exact h.cartWrite rfl fun o ho => by simp only [mapperWrite, ho, e7Write, if_pos h1]
  case ramw =>
    exact h.cartAccess rfl (fun o ho => by simp only [mapperRead, ho, e7Read, if_neg h1, if_pos h2])
      (fun d o ho => by simp only [mapperWrite, ho, e7Write, if_neg h1, if_pos h2])
  have hw : ∀ d o, o.bus.mapper = .e7 m → storeNothing m d o = mapperWrite addr d o := fun d o ho => by
    simp only [mapperWrite, ho, e7Write, if_neg h1, if_neg h2, hc, State.setMapper_self ho, storeNothing]
  refine exec_ite (fun h3 => ?_) fun h3 => ?_
  · exact h.cartAccess rfl (fun o ho => by simp only [mapperRead, ho, e7Read, if_neg h1, if_neg h2, if_pos h3]) hw
  · exact h.cartAccess rfl (fun o ho => by
      simp only [mapperRead, ho, e7Read, if_neg h1, if_neg h2, if_neg h3, hc, State.setMapper_self ho]) hw

end

/-! ### DPC (R200 to R218) -/

section
variable {m : Dpc} {addr : Addr} {acc : Access} {s : State}

theorem Dpc.touch_hot {b : Nat} (ha : a13 addr = 0x1FF8 + b) (hb : b < 2) : m.touch addr = m.select b := by
  rw [Dpc.touch, if_pos ((within_iff _ _ _).2 (by omega)), ha, Nat.add_sub_cancel_left]

theorem Dpc.touch_cold (h : ¬ (0x1FF8 ≤ a13 addr ∧ a13 addr ≤ 0x1FF9)) : m.touch addr = m :=
  if_neg (mt (within_iff _ _ _).1 h)

theorem ServedBy.dpcBank (h : ServedBy (.dpc m) addr acc s) (b : Nat) (hb : b < 2) (ha : a13 addr = 0x1FF8 + b) :
    Machine.cartAccess pickDpc addr acc (dpcBankRead b addr) (dpcBankWrite b) s =
      .next (busTransaction addr acc s) := by
  have h1 : ¬ a13 addr ≤ 0x103F := by omega
  have h2 : ¬ a13 addr ≤ 0x107F := by omega
  have hw : ¬ within 0x1040 0x107F (a13 addr) = true := by rw [within_iff]; omega
  exact h.cartAccess rfl
    (fun o ho => by
      simp only [mapperRead, ho, dpcRead, if_neg h1, dpcRomRead, if_neg h2, Dpc.touch_hot ha hb, dpcBankRead])
    (fun d o ho => by simp only [mapperWrite, ho, dpcWrite, if_neg hw, Dpc.touch_hot ha hb, dpcBankWrite])

/-- The row that a DPC read function decodes to is the dispatch of the function. -/
theorem exec_dpcReadRow {f : Nat} (hf : f < 8) (addr : Addr) (s : State) :
    exec (dpcReadRow f addr) s = cartRead pickDpc addr (dpcFunctionRead f addr) s := by
  match f, hf with
  | 0, _ =>
    -- The pointer index picks the generator or the mixer.
    unfold dpcReadRow dpcFunctionRead
    by_cases h : a3 addr < 4
    · simp only [if_pos h]
      rfl
    · simp only [if_neg h]
      rfl
  | 1, _ | 2, _ | 3, _ | 4, _ | 5, _ | 6, _ | 7, _ => rfl

/-- The row that a DPC write function decodes to is the dispatch of the function. -/
theorem exec_dpcWriteRow {f : Nat} (hf : f < 8) (addr : Addr) (d : Byte) (s : State) :
    exec (dpcWriteRow f addr d) s = cartWrite pickDpc addr d (dpcFunctionWrite f addr d) s := by
  match f, hf with
  | 0, _ | 1, _ | 2, _ | 3, _ | 4, _ | 5, _ | 6, _ | 7, _ => rfl

theorem dpcFunction_lt (addr : Addr) : dpcFunction addr < 8 := Nat.mod_lt _ (by decide)

theorem ServedBy.dpcRomRd (h : ServedBy (.dpc m) addr .rd s) (h1 : ¬ a13 addr ≤ 0x103F) (hc : m.touch addr = m) :
    exec (.dpcRom addr .rd) s = .next (busTransaction addr .rd s) :=
  h.cartRead (pick := pickDpc) rfl fun o ho => by
    simp only [mapperRead, ho, dpcRead, if_neg h1, hc, State.setMapper_self ho]

theorem ServedBy.dpcRomWr {d : Byte} (h : ServedBy (.dpc m) addr (.wr d) s)
    (h1 : ¬ (0x1040 ≤ a13 addr ∧ a13 addr ≤ 0x107F)) (hc : m.touch addr = m) :
    exec (.dpcRom addr (.wr d)) s = .next (busTransaction addr (.wr d) s) :=
  h.cartWrite (pick := pickDpc) rfl fun o ho => by
    simp only [mapperWrite, ho, dpcWrite, if_neg (mt (within_iff _ _ _).1 h1), hc, State.setMapper_self ho,
      storeNothing]

theorem ServedBy.decodeDpc (h : ServedBy (.dpc m) addr acc s) :
    exec (decodeDpc addr acc) s = .next (busTransaction addr acc s) := by
  refine exec_ite (fun ha => h.dpcBank 0 (by decide) ha) fun _ => ?_
  refine exec_ite (fun ha => h.dpcBank 1 (by decide) ha) fun _ => ?_
  have hc : m.touch addr = m := Dpc.touch_cold (by omega)
  refine exec_ite (fun h1 => ?_) fun h1 => exec_ite (fun h2 => ?_) fun h2 => ?_
  · cases acc with
    | rd =>
      exact (exec_dpcReadRow (dpcFunction_lt addr) addr s).trans
        (h.cartRead rfl fun o ho => by simp only [mapperRead, ho, dpcRead, if_pos h1])
    | wr d => exact h.dpcRomWr (by omega) hc
  · cases acc with
    | rd => exact h.dpcRomRd h1 hc
    | wr d =>
      have hw : within 0x1040 0x107F (a13 addr) = true := by rw [within_iff]; omega
      exact (exec_dpcWriteRow (dpcFunction_lt addr) addr d s).trans
        (h.cartWrite rfl fun o ho => by simp only [mapperWrite, ho, dpcWrite, if_pos hw])
  · cases acc with
    | rd => exact h.dpcRomRd h1 hc
    | wr d => exact h.dpcRomWr (by omega) hc

end

/-! ### "66" (R225 to R236) -/

section
variable {m : Ar} {addr : Addr} {acc : Access} {s : State}

/-- A row that changes the record by `f`. -/
theorem ServedBy.arTouch (h : ServedBy (.ar66 m) addr acc s) (f : Ar → Ar) (hf : Ar.access addr m = f m) :
    Machine.cartAccess pickAr addr acc (arTouchRead f addr) (arTouchWrite f) s = .next (busTransaction addr acc s) :=
  h.cartAccess rfl (fun o ho => by simp only [mapperRead, ho, arRead, arTouchRead, hf])
    (fun d o ho => by simp only [mapperWrite, ho, arWrite, arTouchWrite, hf])

theorem ServedBy.decodeAr (h : ServedBy (.ar66 m) addr acc s) :
    exec (decodeAr addr acc) s = .next (busTransaction addr acc s) := by
  refine exec_ite (fun h1 => ?latch) fun h1 => exec_ite (fun h2 => ?ctrl) fun h2 => ?mem
  case latch =>
    have h2 : ¬ a13 addr = 0x1FF8 := by omega
    exact h.arTouch (Ar.latch addr) (by simp only [Ar.access, if_pos h1, if_neg h2])
  case ctrl => exact h.arTouch Ar.control (by simp only [Ar.access, if_neg h1, if_pos h2])
  case mem =>
    have hc : Ar.access addr m = m := by simp only [Ar.access, if_neg h1, if_neg h2]
    cases acc with
    | rd =>
      exact h.cartRead rfl fun o ho => by
        simp only [mapperRead, ho, arRead, arTouchRead, hc, State.setMapper_self ho]
    | wr d =>
      exact h.cartWrite rfl fun o ho => by
        simp only [mapperWrite, ho, arWrite, arTouchWrite, hc, State.setMapper_self ho, keepState]

end

/-! ## Every bus request -/

/-- The row of cartridge space that the active variant's format gives. -/
theorem exec_decodeCart {addr : Addr} {acc : Access} {s : State} (hl : s.fatal = none) (hr : region addr = .cart) :
    exec (decodeCart (opened addr acc s).bus.mapper.tag addr acc) s = .next (busTransaction addr acc s) := by
  have h : ServedBy (opened addr acc s).bus.mapper addr acc s := ⟨hl, hr, rfl⟩
  generalize (opened addr acc s).bus.mapper = M at h
  cases M with
  | unknown => exact h.decodeUnknown
  | std m =>
    cases hk : m.kind with
    | f8 =>
      rw [Mapper.tag, hk]
      exact h.decodeF8 hk
    | f6 =>
      rw [Mapper.tag, hk]
      exact h.decodeF6 hk
    | f4 =>
      rw [Mapper.tag, hk]
      exact h.decodeF4 hk
  | fa m => exact h.decodeFA
  | f0 bank => exact h.decodeF0
  | e0 m => exact h.decodeE0
  | m3f bank => exact h.m3fRom
  | fe bank => exact h.feRom
  | e7 m => exact h.decodeE7
  | dpc m => exact h.decodeDpc
  | ar66 m => exact h.decodeAr
  | c0 ram => exact h.decodeC0

/-- `3F.BANK` is the whole bus write: the hook in front, the TIA register behind it (R92, R177). -/
theorem exec_m3fBank_live {addr : Addr} {d : Byte} {s : State} (hl : s.fatal = none) (hr : region addr = .tia)
    (ht : (opened addr (.wr d) s).bus.mapper.tag = .m3f) :
    exec (.m3fBank addr d) s = .next (busTransaction addr (.wr d) s) := by
  obtain ⟨b, hb⟩ : ∃ b, pick3F (opened addr (.wr d) s).bus.mapper = some b := by
    cases hm : (opened addr (.wr d) s).bus.mapper with
    | m3f b => exact ⟨b, rfl⟩
    | std m => cases hk : m.kind <;> simp only [hm, Mapper.tag, hk, StdKind.tag, reduceCtorEq] at ht
    | _ => simp only [hm, Mapper.tag, reduceCtorEq] at ht
  show cartWrite pick3F addr d _ s = _
  rw [cartWrite_live hl hb, busTransaction, busWrite]
  simp only [serveWrite, hr]

/-- A bus request under the variant that serves it is a row whose meaning is the whole transaction (R121, R122). -/
theorem exec_decodeBus {addr : Addr} {acc : Access} {s : State} (hl : s.fatal = none) :
    exec (decodeBus (opened addr acc s).bus.mapper.tag addr acc) s = .next (busTransaction addr acc s) := by
  unfold decodeBus
  cases hr : region addr with
  | cart => exact exec_decodeCart hl hr
  | ram => exact exec_decodeRam acc hl hr
  | io => exact exec_decodeIo acc hl hr
  | tia =>
    cases acc with
    | rd =>
      exact (exec_decodeTiaRead addr s).trans (readCycle_busRead hl fun o => by simp only [serveRead, hr])
    | wr d =>
      refine exec_ite (fun hs => ?_) fun _ => ?_
      · rw [snooped, Bool.and_eq_true, beq_iff_eq] at hs
        exact exec_m3fBank_live hl hr hs.1
      · exact (exec_decodeTiaWrite addr d s).trans (writeCycle_busWrite hl fun o => by simp only [serveWrite, hr])

theorem operationOf_busRequest (addr : Addr) (acc : Access) (s : State) :
    operationOf (busRequest addr acc) s = some (decodeBus (opened addr acc s).bus.mapper.tag addr acc) := by
  rw [operationOf, ← opened_tag]
  cases acc <;> rfl

/-! ## What an access leaves unchanged -/

/-- What every bus access keeps: the clock, the beam, the picture, the sound buffer, the input, the image, the run's end
and the `last...` fields (R121, R122, R130, R443, R481). -/
structure ServeFrame (s t : State) : Prop where
  cycles : t.cycles = s.cycles
  beam : t.tia.x = s.tia.x
  fb : t.tia.fb = s.tia.fb
  pfActive : t.tia.pfActive = s.tia.pfActive
  buf : t.apu.buf = s.apu.buf
  acc : t.apu.acc = s.apu.acc
  input : t.input = s.input
  image : t.image = s.image
  fatal : t.fatal = s.fatal
  lastRead : t.bus.lastReadAddr = s.bus.lastReadAddr
  lastWrite : t.bus.lastWriteAddr = s.bus.lastWriteAddr
  lastAccess : t.bus.lastAccessAddr = s.bus.lastAccessAddr

namespace ServeFrame

theorem refl (s : State) : ServeFrame s s := by constructor <;> rfl

theorem trans {s t u : State} (h : ServeFrame s t) (k : ServeFrame t u) : ServeFrame s u where
  cycles := k.cycles.trans h.cycles
  beam := k.beam.trans h.beam
  fb := k.fb.trans h.fb
  pfActive := k.pfActive.trans h.pfActive
  buf := k.buf.trans h.buf
  acc := k.acc.trans h.acc
  input := k.input.trans h.input
  image := k.image.trans h.image
  fatal := k.fatal.trans h.fatal
  lastRead := k.lastRead.trans h.lastRead
  lastWrite := k.lastWrite.trans h.lastWrite
  lastAccess := k.lastAccess.trans h.lastAccess

theorem drew (s : State) : ServeFrame s s.drew := by constructor <;> rfl

theorem log (k : AnomalyKind) (n : Nat) (addr : Addr) (s : State) : ServeFrame s (s.log k n addr) := by
  constructor <;> rfl

theorem setMapper (M : Mapper) (s : State) : ServeFrame s (s.setMapper M) := by constructor <;> rfl

theorem setIo (io : Io) (s : State) : ServeFrame s (s.setIo io) := by constructor <;> rfl

theorem setTimer (t : Timer) (s : State) : ServeFrame s (s.setTimer t) := by constructor <;> rfl

theorem setRam (k : Nat) (d : Byte) (s : State) : ServeFrame s (s.setRam k d) := by constructor <;> rfl

theorem opened (addr : Addr) (acc : Access) (s : State) : ServeFrame s (opened addr acc s) := by
  have h := opened_frame addr acc s
  exact {
    cycles := h.cycles
    beam := congrArg Tia.x h.tia
    fb := congrArg Tia.fb h.tia
    pfActive := congrArg Tia.pfActive h.tia
    buf := congrArg Apu.buf h.apu
    acc := congrArg Apu.acc h.apu
    input := h.input
    image := h.image
    fatal := h.fatal
    lastRead := by rw [h.bus]
    lastWrite := by rw [h.bus]
    lastAccess := by rw [h.bus] }

theorem romByte (i : Nat) (s : State) : ServeFrame s (romByte i s).2 := by
  rcases romByte_state i s with h | h <;> rw [h]
  · exact refl s
  · exact drew s

/-- A byte of the image after a change of the variant's record. -/
theorem romByte_setMapper (M : Mapper) (i : Nat) (s : State) :
    ServeFrame s (Machine.romByte i (s.setMapper M)).2 := (setMapper M s).trans (romByte i _)

/-! ### Outside cartridge space -/

theorem potLine (k : Pot) (s : State) : ServeFrame s (potLine k s).2 := by
  unfold Machine.potLine
  cases s.mode k.port
  case joystick => exact drew s
  all_goals exact refl s

theorem twoBits (a b : Bool) (s : State) : ServeFrame s (twoBits a b s).2 := drew s

theorem topBit (b : Bool) (s : State) : ServeFrame s (topBit b s).2 := (drew s).trans (drew _)

theorem readPot (k : Pot) (s : State) : ServeFrame s (readPot k s).2 := (potLine k s).trans (topBit _ _)

theorem readUnassigned (k : Nat) (addr : Addr) (s : State) : ServeFrame s (readUnassigned k addr s).2 :=
  (log _ k addr s).trans (drew _)

theorem tiaRead (addr : Addr) (s : State) : ServeFrame s (tiaRead addr s).2 := by
  unfold Machine.tiaRead
  split
  -- `CXBLPF`, `INPT4` and `INPT5`; `INPT0` to `INPT3`; the unassigned selects; the other collision registers.
  case h_7 | h_13 | h_14 => exact topBit _ s
  case h_9 | h_10 | h_11 | h_12 => exact readPot _ s
  case h_15 | h_16 => exact readUnassigned _ addr s
  all_goals exact twoBits _ _ s

theorem wrVsync (d : Byte) (s : State) : ServeFrame s (wrVsync d s) := by
  unfold Machine.wrVsync
  split <;> constructor <;> rfl

theorem tiaWrite (addr : Addr) (d : Byte) (s : State) : ServeFrame s (tiaWrite addr d s) := by
  unfold Machine.tiaWrite
  split
  case h_1 => exact wrVsync d s
  all_goals constructor <;> rfl

theorem ioRead (addr : Addr) (s : State) : ServeFrame s (ioRead addr s).2 := by
  unfold Machine.ioRead
  split
  · split <;> exact refl s
  · split <;> exact setTimer _ s

theorem ioWrite (addr : Addr) (d : Byte) (s : State) : ServeFrame s (ioWrite addr d s) := by
  unfold Machine.ioWrite
  split
  · split <;> exact setIo _ s
  split
  · split <;> exact setTimer _ s
  · exact log _ _ addr s

/-! ### Cartridge space -/

theorem stdRead (addr : Addr) (m : Std) (s : State) : ServeFrame s (stdRead addr m s).2 := by
  unfold Machine.stdRead stdScRead stdRomRead
  split
  · split
    · exact refl s
    · exact romByte _ s
  · split
    · exact (setMapper _ s).trans (drew _)
    · exact romByte_setMapper _ _ s

theorem faRead (addr : Addr) (m : Fa) (s : State) : ServeFrame s (faRead addr m s).2 := by
  unfold Machine.faRead
  split
  · exact drew s
  split
  · exact refl s
  · exact romByte_setMapper _ _ s

theorem f0Read (addr : Addr) (bank : Nat) (s : State) : ServeFrame s (f0Read addr bank s).2 := by
  unfold Machine.f0Read
  split
  · exact romByte_setMapper _ _ s
  · exact romByte _ s

theorem m3fRead (addr : Addr) (bank : Nat) (s : State) : ServeFrame s (m3fRead addr bank s).2 := by
  unfold Machine.m3fRead
  split <;> exact romByte _ s

theorem e7Read (addr : Addr) (m : E7) (s : State) : ServeFrame s (e7Read addr m s).2 := by
  unfold Machine.e7Read e7LowLoad
  split
  · split
    · exact romByte _ s
    split
    · exact drew s
    · exact refl s
  split
  · exact drew s
  split
  · exact refl s
  · exact romByte_setMapper _ _ s

/-- A DPC read register keeps what its function's result keeps. -/
theorem dpcRegRead {result : Nat → Dpc → State → Byte × State} (h : ∀ i m s, ServeFrame s (result i m s).2)
    (addr : Addr) (m : Dpc) (s : State) : ServeFrame s (dpcRegRead result addr m s).2 := (h _ _ s).trans (setMapper _ _)

theorem dpcFunctionRead (f : Nat) (addr : Addr) (m : Dpc) (s : State) :
    ServeFrame s (dpcFunctionRead f addr m s).2 := by
  unfold Machine.dpcFunctionRead
  split
  case h_1 => split <;> exact dpcRegRead (fun _ _ t => refl t) addr m s
  case h_8 => exact dpcRegRead (fun _ _ t => refl t) addr m s
  all_goals exact dpcRegRead (fun _ _ t => romByte _ t) addr m s

theorem dpcRead (addr : Addr) (m : Dpc) (s : State) : ServeFrame s (dpcRead addr m s).2 := by
  unfold Machine.dpcRead dpcRomRead
  split
  · exact dpcFunctionRead _ addr m s
  split
  · exact (setMapper _ s).trans (drew _)
  · exact romByte_setMapper _ _ s

theorem arByte (addr : Addr) (m : Ar) (s : State) : ServeFrame s (arByte addr m s).2 := by
  unfold Machine.arByte
  split
  · exact refl s
  · exact (log _ _ addr s).trans (drew _)

theorem c0Read (addr : Addr) (ram : Mem) (s : State) : ServeFrame s (c0Read addr ram s).2 := by
  unfold Machine.c0Read
  split
  · exact refl s
  split
  · exact drew s
  · exact romByte _ s

theorem mapperRead (addr : Addr) (s : State) : ServeFrame s (mapperRead addr s).2 := by
  unfold Machine.mapperRead
  cases s.bus.mapper with
  | unknown => exact romByte _ s
  | std m => exact stdRead addr m s
  | fa m => exact faRead addr m s
  | f0 bank => exact f0Read addr bank s
  | e0 m => exact romByte_setMapper _ _ s
  | m3f bank => exact m3fRead addr bank s
  | fe bank => exact romByte _ s
  | e7 m => exact e7Read addr m s
  | dpc m => exact dpcRead addr m s
  | ar66 m => exact (setMapper _ s).trans (arByte addr _ _)
  | c0 ram => exact c0Read addr ram s

theorem e7Write (addr : Addr) (d : Byte) (m : E7) (s : State) : ServeFrame s (e7Write addr d m s) := by
  unfold Machine.e7Write e7LowStore
  split
  · split
    · exact setMapper _ s
    · exact refl s
  · split <;> exact setMapper _ s

theorem dpcWrite (addr : Addr) (d : Byte) (m : Dpc) (s : State) : ServeFrame s (dpcWrite addr d m s) := by
  unfold Machine.dpcWrite dpcFunctionWrite
  split
  · split
    case h_6 => exact (setMapper _ s).trans (log _ _ addr _)
    all_goals exact setMapper _ s
  · exact setMapper _ s

theorem mapperWrite (addr : Addr) (d : Byte) (s : State) : ServeFrame s (mapperWrite addr d s) := by
  unfold Machine.mapperWrite
  cases s.bus.mapper with
  | unknown | m3f _ | fe _ => exact refl s
  | std m => dsimp only [stdWrite]; split <;> exact setMapper _ s
  | fa m => dsimp only [faWrite]; split <;> exact setMapper _ s
  | f0 bank =>
    dsimp only [f0Write]
    split
    · exact setMapper _ s
    · exact refl s
  | e0 m => exact setMapper _ s
  | e7 m => exact e7Write addr d m s
  | dpc m => exact dpcWrite addr d m s
  | ar66 m => exact setMapper _ s
  | c0 ram =>
    dsimp only [c0Write]
    split
    · exact setMapper _ s
    · exact refl s

/-! ### The two bus operations -/

theorem serveRead (addr : Addr) (s : State) : ServeFrame s (serveRead addr s).2 := by
  unfold Machine.serveRead
  cases region addr with
  | cart => exact mapperRead addr s
  | tia => exact tiaRead addr s
  | ram => exact refl s
  | io => exact ioRead addr s

theorem serveWrite (addr : Addr) (d : Byte) (s : State) : ServeFrame s (serveWrite addr d s) := by
  unfold Machine.serveWrite
  cases region addr with
  | cart => exact mapperWrite addr d s
  | tia => exact tiaWrite addr d s
  | ram => exact setRam _ d s
  | io => exact ioWrite addr d s

end ServeFrame

/-- A bus transaction never ends the run (R481). -/
theorem busTransaction_fatal (addr : Addr) (acc : Access) (s : State) :
    (busTransaction addr acc s).fatal = s.fatal := by
  cases acc with
  | rd => exact ((ServeFrame.opened addr .rd s).trans (ServeFrame.serveRead addr _)).fatal
  | wr d => exact ((ServeFrame.opened addr (.wr d) s).trans (ServeFrame.serveWrite addr d _)).fatal

theorem runCycles_fatal (n : Nat) (s : State) : (runCycles n s).fatal = s.fatal := by
  rw [runCycles, sampleInput_eq, State.setIo_fatal, cycleTimes_fatal]

/-! ## The core's events as requests -/

/-- A live bus request is one operation, and its meaning is the whole transaction (R121, R122; log entry 7). -/
theorem busRequest_exec (addr : Addr) (acc : Access) {s : State} (hl : s.fatal = none) :
    ∃ i, operationOf (busRequest addr acc) s = some i ∧ exec i s = .next (busTransaction addr acc s) :=
  ⟨_, operationOf_busRequest addr acc s, exec_decodeBus hl⟩

theorem execRun_live (n : Nat) {s : State} (hl : s.fatal = none) :
    exec (.run n) s = .next ((runCycles n s).answer .none) := whileLive_live hl

/-- One event of an instruction, issued as a request: it completes, the run goes on, and the rest of the instruction
continues from its state, with the byte it read (R4, R440). -/
theorem coreEvent_request (e : CoreEvent) {s : State} (hl : s.fatal = none) :
    ∃ i t, operationOf (Spec.requestOf e) s = some i ∧ exec i s = .next t ∧ t.fatal = none ∧
      ∀ rest seen, runEvents (e :: rest) seen s = runEvents rest ((Spec.repliedBytes t.reply).reverse ++ seen) t := by
  cases e with
  | rd addr =>
    obtain ⟨i, hi, hx⟩ := busRequest_exec addr .rd hl
    exact ⟨i, _, hi, hx, (busTransaction_fatal addr .rd s).trans hl, fun _ _ => rfl⟩
  | wr addr d =>
    obtain ⟨i, hi, hx⟩ := busRequest_exec addr (.wr d) hl
    exact ⟨i, _, hi, hx, (busTransaction_fatal addr (.wr d) s).trans hl, fun _ _ => rfl⟩
  | run n => exact ⟨.run n, _, rfl, execRun_live n hl, (runCycles_fatal n s).trans hl, fun _ _ => rfl⟩

/-- The events of an instruction, one request after the other: the same bytes and the same last state. -/
theorem runRequests_eq_runEvents (events : List CoreEvent) {s : State} (hl : s.fatal = none) :
    ∃ vs u, Spec.runRequests events s = some (vs, u) ∧
      ∀ seen, runEvents events seen s = (vs.reverse ++ seen, u) := by
  induction events generalizing s with
  | nil => exact ⟨[], s, rfl, fun _ => rfl⟩
  | cons e rest ih =>
    obtain ⟨i, t, hi, hx, ht, hrun⟩ := coreEvent_request e hl
    obtain ⟨vs, u, hreq, hev⟩ := ih ht
    refine ⟨Spec.repliedBytes t.reply ++ vs, u, ?_, fun seen => ?_⟩
    · simp only [Spec.runRequests, hi, hx, hreq]
    · rw [hrun, hev, List.reverse_append, List.append_assoc]

/-- `STEP` on a live state that is not stalled (R440). -/
theorem execStep_running (events : List CoreEvent) {s : State} (hl : s.fatal = none) (hw : s.tia.waitHBlank = false) :
    exec (.step events) s = .next (runInstruction events s) := by
  simp only [exec_step, execStep, (State.ended_iff s).2 hl, hw, Bool.false_eq_true, if_false]

/-- `STEP` on a live state that is stalled (R441). -/
theorem execStep_stalled (events : List CoreEvent) {s : State} (hl : s.fatal = none) (hw : s.tia.waitHBlank = true) :
    exec (.step events) s = exec (.run 1) s := by
  rw [execRun_live 1 hl]
  simp only [exec_step, execStep, (State.ended_iff s).2 hl, hw, Bool.false_eq_true, if_false, if_true]

end Sys2Proof.Machine

namespace Sys2Proof.Proofs

open Sys2Proof Sys2Proof.Machine

/-- Settles O49, by induction on the core's events: each is a request that completes. -/
theorem stepOperation : Obligations.StepOperation := by
  refine ⟨fun events s hl hw => ?_, fun events s hl hw => execStep_stalled events hl hw⟩
  obtain ⟨vs, u, hreq, hev⟩ := runRequests_eq_runEvents events hl
  refine ⟨vs, u, hreq, ?_⟩
  rw [execStep_running events hl hw, runInstruction, hev]
  simp only [List.append_nil, List.reverse_reverse]
  rfl

end Sys2Proof.Proofs
end

section
/-! What every operation keeps, unless it brings a whole state from outside (R22, R44, R146): the ranges of the state's
elements, the requests that wait, and the tag of an active variant. One lemma per effect, then one per row. -/

namespace Sys2Proof.Machine

/-! ## The record a row finds, and the parts of the invariant -/

section
variable {M : Mapper}

theorem pickStd_tag {k : StdKind} {m : Std} (h : pickStd k M = some m) : M.tag = m.kind.tag := by
  cases M with
  | std m' =>
    rw [← Option.some.inj (Option.ite_none_right_eq_some.1 h).2]
    rfl
  | _ => cases h

theorem pickFa_tag {m : Fa} (h : pickFa M = some m) : M.tag = .fa := by
  cases M with
  | fa _ => rfl
  | _ => cases h

theorem pickF0_tag {bank : Nat} (h : pickF0 M = some bank) : M.tag = .f0 := by
  cases M with
  | f0 _ => rfl
  | _ => cases h

theorem pickE0_tag {m : E0} (h : pickE0 M = some m) : M.tag = .e0 := by
  cases M with
  | e0 _ => rfl
  | _ => cases h

theorem pickFe_eq {bank : Nat} (h : pickFe M = some bank) : M = .fe bank := by
  cases M with
  | fe _ => rw [Option.some.inj h]
  | _ => cases h

theorem pickC0_tag {ram : Mem} (h : pickC0 M = some ram) : M.tag = .c0 := by
  cases M with
  | c0 _ => rfl
  | _ => cases h

theorem pickE7_tag {m : E7} (h : pickE7 M = some m) : M.tag = .e7 := by
  cases M with
  | e7 _ => rfl
  | _ => cases h

theorem pickDpc_eq {m : Dpc} (h : pickDpc M = some m) : M = .dpc m := by
  cases M with
  | dpc _ => rw [Option.some.inj h]
  | _ => cases h

theorem pickAr_eq {m : Ar} (h : pickAr M = some m) : M = .ar66 m := by
  cases M with
  | ar66 _ => rw [Option.some.inj h]
  | _ => cases h

end

theorem State.apu_ok {s : State} (h : s.ok = true) : s.apu.ok = true := by
  obtain ⟨-, -, -, -, ha, -⟩ := (State.ok_iff s).1 h
  exact ha

/-- A tick keeps the variant (R143). -/
theorem tickedMapper_tag (b : Bus) : b.tickedMapper.tag = b.mapper.tag := by
  unfold Bus.tickedMapper
  split <;> simp only [*, Mapper.tag]

/-- The range of the record of `E7` (R22). -/
def E7.InRange (m : E7) : Prop :=
  (m.bank ≤ 6 ∨ m.bank = 8) ∧ m.ramBank < 4 ∧ Mem.ok 1024 m.ram1k = true ∧ Mem.ok 1024 m.ram256 = true

/-! ## The relation -/

/-- From `s` to `t` every element stays in its range, no request is lost, and an active variant stays active. -/
structure Kept (s t : State) : Prop where
  ok : s.ok = true → t.ok = true
  inbox : t.inbox = s.inbox
  tag : s.bus.mapper.tag ≠ .unknown → t.bus.mapper.tag = s.bus.mapper.tag

namespace Kept

/-- A change that touches neither a range, nor the requests, nor the variant's record. -/
theorem same {s t : State} (ok : t.ok = s.ok) (inbox : t.inbox = s.inbox)
    (mapper : t.bus.mapper = s.bus.mapper) : Kept s t :=
  ⟨fun h => ok.trans h, inbox, fun _ => congrArg Mapper.tag mapper⟩

theorem refl (s : State) : Kept s s := same rfl rfl rfl

theorem trans {s t u : State} (h : Kept s t) (k : Kept t u) : Kept s u where
  ok hs := k.ok (h.ok hs)
  inbox := k.inbox.trans h.inbox
  tag hs := (k.tag (h.tag hs ▸ hs)).trans (h.tag hs)

theorem drew (s : State) : Kept s s.drew := same rfl rfl rfl

theorem log (k : AnomalyKind) (n : Nat) (addr : Addr) (s : State) : Kept s (s.log k n addr) := same rfl rfl rfl

theorem answer (r : Reply) (s : State) : Kept s (s.answer r) := same rfl rfl rfl

theorem closeRead (addr : Addr) (r : Byte × State) : Kept r.2 (closeRead addr r) := same rfl rfl rfl

theorem closeWrite (addr : Addr) (s : State) : Kept s (closeWrite addr s) := same rfl rfl rfl

/-- Another record of the active variant. -/
theorem setMapper {M : Mapper} {s : State} (tag : s.bus.mapper.tag = M.tag)
    (ok : s.ok = true → (s.setMapper M).ok = true) : Kept s (s.setMapper M) :=
  ⟨ok, rfl, fun _ => tag.symm⟩

theorem romByte (i : Nat) (s : State) : Kept s (romByte i s).2 := by
  rcases romByte_state i s with h | h <;> rw [h]
  · exact refl s
  · exact drew s

/-- Detection replaces `Unknown` only, and the hook installs another bank of `3F` only (R146, R177). -/
theorem opened (addr : Addr) (acc : Access) (s : State) : Kept s (opened addr acc s) where
  ok := opened_ok addr acc
  inbox := (opened_frame addr acc s).inbox
  tag h := by
    rw [opened_tag]
    cases acc <;> simp only [servingTag, busRequest, resolve_of_known h]

/-! ### The frames of the operations -/

section
variable {α : Type} {pick : Mapper → Option α} {addr : Addr} {d : Byte} {acc : Access} {s t : State}

theorem whileLive {f : State → State} (e : whileLive f s = .next t) (hf : ∀ s, Kept s (f s)) : Kept s t := by
  obtain ⟨-, rfl⟩ := whileLive_next.1 e
  exact (hf s).trans (answer _ _)

theorem readCycle {f : State → Byte × State} (e : readCycle addr f s = .next t) (hf : ∀ s, Kept s (f s).2) :
    Kept s t := by
  obtain ⟨-, rfl⟩ := readCycle_next.1 e
  exact ((opened addr .rd s).trans (hf _)).trans (closeRead addr _)

theorem writeCycle {f : State → State} (e : writeCycle addr d f s = .next t) (hf : ∀ s, Kept s (f s)) :
    Kept s t := by
  obtain ⟨-, rfl⟩ := writeCycle_next.1 e
  exact ((opened addr (.wr d) s).trans (hf _)).trans (closeWrite addr _)

theorem cartRead {f : α → State → Byte × State} (e : cartRead pick addr f s = .next t)
    (hf : ∀ m s, pick s.bus.mapper = some m → Kept s (f m s).2) : Kept s t := by
  obtain ⟨-, m, hm, rfl⟩ := cartRead_next.1 e
  exact ((opened addr .rd s).trans (hf m _ hm)).trans (closeRead addr _)

theorem cartWrite {f : α → State → State} (e : cartWrite pick addr d f s = .next t)
    (hf : ∀ m s, pick s.bus.mapper = some m → Kept s (f m s)) : Kept s t := by
  obtain ⟨-, m, hm, rfl⟩ := cartWrite_next.1 e
  exact ((opened addr (.wr d) s).trans (hf m _ hm)).trans (closeWrite addr _)

theorem cartAccess {f : α → State → Byte × State} {g : α → Byte → State → State}
    (e : cartAccess pick addr acc f g s = .next t) (hf : ∀ m s, pick s.bus.mapper = some m → Kept s (f m s).2)
    (hg : ∀ m d s, pick s.bus.mapper = some m → Kept s (g m d s)) : Kept s t := by
  cases acc with
  | rd => exact cartRead e hf
  | wr d => exact cartWrite e fun m => hg m d

/-- A row whose write stores nothing. -/
theorem cartLoad {f : α → State → Byte × State} (e : Machine.cartAccess pick addr acc f storeNothing s = .next t)
    (hf : ∀ m s, Kept s (f m s).2) : Kept s t :=
  cartAccess e (fun m s _ => hf m s) (fun _ _ s _ => refl s)

theorem cartKeep (e : Machine.cartWrite pick addr d keepState s = .next t) : Kept s t :=
  cartWrite e fun _ s _ => refl s

theorem variantEvent {f : α → State → State} (e : variantEvent pick f s = .next t)
    (hf : ∀ m s, pick s.bus.mapper = some m → Kept s (f m s)) : Kept s t := by
  unfold Machine.variantEvent at e
  split at e
  · contradiction
  split at e
  · contradiction
  next m hm =>
    cases e
    exact (hf m s hm).trans (answer _ _)

end

/-! ### Video chip, RAM, ports and timer -/

theorem tiaWrite (addr : Addr) (d : Byte) (s : State) : Kept s (tiaWrite addr d s) := by
  have h : (Machine.tiaWrite addr d s).inbox = s.inbox ∧ (Machine.tiaWrite addr d s).bus = s.bus := by
    unfold Machine.tiaWrite
    split
    case h_1 =>
      unfold wrVsync
      split <;> exact ⟨rfl, rfl⟩
    all_goals exact ⟨rfl, rfl⟩
  refine ⟨fun hs => ?_, h.1, fun _ => by rw [h.2]⟩
  have hw := tiaWrite_ok addr.toNat d hs
  rwa [BitVec.natCast_eq_ofNat, BitVec.ofNat_toNat, BitVec.setWidth_eq] at hw

theorem readPot (k : Pot) (s : State) : Kept s (readPot k s).2 := by
  unfold Machine.readPot potLine
  cases s.mode k.port <;> exact same rfl rfl rfl

theorem wrRam (addr : Addr) (d : Byte) (s : State) : Kept s (wrRam addr d s) := ⟨wrRam_ok, rfl, fun _ => rfl⟩

theorem wrTimer (i : Divider) (d : Byte) (s : State) : Kept s (wrTimer i d s) := ⟨wrTimer_ok i d, rfl, fun _ => rfl⟩

/-! ### The standard family (R151 to R156) -/

section
variable {k : StdKind} {m : Std} {addr : Addr} {d : Byte} {acc : Access} {s t : State}

theorem stdSelect (b : Nat) (hb : b < k.nbanks) (hm : pickStd k s.bus.mapper = some m) :
    Kept s (s.setMapper (.std (m.select b))) :=
  setMapper (M := .std (m.select b)) ((pickStd_tag hm).trans rfl) fun h => by
    obtain ⟨hk, -, hr⟩ := pickStd_ok hm h
    subst hk
    exact setMapper_std_ok h hb hr

theorem stdBank (b : Nat) (hb : b < k.nbanks)
    (e : Machine.cartAccess (pickStd k) addr acc (stdBankRead b addr) (stdBankWrite b) s = .next t) : Kept s t :=
  cartAccess e (fun _ _ hm => (stdSelect b hb hm).trans (romByte _ _)) fun _ _ _ hm => stdSelect b hb hm

theorem stdScw (e : Machine.cartWrite (pickStd k) addr d (stdScWrite addr d) s = .next t) : Kept s t :=
  cartWrite e fun _ _ hm => setMapper ((pickStd_tag hm).trans rfl) fun h => by
    obtain ⟨-, hb, hr⟩ := pickStd_ok hm h
    exact setMapper_std_ok h hb (Mem.ok_write _ (a7_lt addr) hr)

theorem stdScr (e : Machine.cartRead (pickStd k) addr (stdScRead addr) s = .next t) : Kept s t :=
  cartRead e fun _ s _ => by
    unfold stdScRead
    split
    · exact refl s
    · exact romByte _ s

theorem stdRom (e : Machine.cartRead (pickStd k) addr (stdRomRead addr) s = .next t) : Kept s t :=
  cartRead e fun _ s _ => by
    unfold stdRomRead
    split
    · exact drew s
    · exact romByte _ s

end

/-! ### The simple variants (R149, R150, R160 to R189) -/

section
variable {addr : Addr} {d : Byte} {acc : Access} {s t : State}

theorem faRecord {m m' : Fa} (hm : pickFa s.bus.mapper = some m)
    (hr : m.bank < 3 ∧ Mem.ok 256 m.ram = true → m'.bank < 3 ∧ Mem.ok 256 m'.ram = true) :
    Kept s (s.setMapper (.fa m')) :=
  setMapper (pickFa_tag hm) fun h => setMapper_ok h <| by
    simpa only [Mapper.ok, Bool.and_eq_true, decide_eq_true_eq] using hr (pickFa_ok hm h)

theorem faBank (b : Nat) (hb : b < 3)
    (e : Machine.cartAccess pickFa addr acc (faBankRead b addr) (faBankWrite b) s = .next t) : Kept s t :=
  cartAccess e (fun m _ hm => (faRecord (m' := m.select b) hm fun h => ⟨hb, h.2⟩).trans (romByte _ _))
    fun m _ _ hm => faRecord (m' := m.select b) hm fun h => ⟨hb, h.2⟩

theorem faRamw (e : Machine.cartAccess pickFa addr acc faWritePortRead (faStore addr) s = .next t) : Kept s t :=
  cartAccess e (fun _ s _ => drew s) fun _ _ _ hm => faRecord hm fun h => ⟨h.1, Mem.ok_write _ (a8_lt addr) h.2⟩

theorem f0Select {bank : Nat} (hm : pickF0 s.bus.mapper = some bank) : Kept s (s.setMapper (.f0 (nextF0 bank))) :=
  setMapper (pickF0_tag hm) fun h => setMapper_ok h (decide_eq_true (Nat.mod_lt _ (by decide)))

theorem f0Next (e : Machine.cartAccess pickF0 addr acc (f0NextRead addr) f0NextWrite s = .next t) : Kept s t :=
  cartAccess e (fun _ _ hm => (f0Select hm).trans (romByte _ _)) fun _ _ _ hm => f0Select hm

/-- A row of the control window, whose selection `f` keeps the slices' range. -/
theorem e0Select {f : E0 → E0}
    (e : Machine.cartAccess pickE0 addr acc (e0SelectRead f addr) (e0SelectWrite f) s = .next t)
    (hf : ∀ m : E0, m.slice0 < 8 ∧ m.slice1 < 8 ∧ m.slice2 < 8 →
      (f m).slice0 < 8 ∧ (f m).slice1 < 8 ∧ (f m).slice2 < 8) : Kept s t := by
  have hs : ∀ (m : E0) (s : State), pickE0 s.bus.mapper = some m → Kept s (s.setMapper (.e0 (f m))) :=
    fun m s hm => setMapper (pickE0_tag hm) fun h => setMapper_ok h <| by
      simpa only [Mapper.ok, Bool.and_eq_true, decide_eq_true_eq, and_assoc] using hf m (pickE0_ok hm h)
  exact cartAccess e (fun m s hm => (hs m s hm).trans (romByte _ _)) fun m _ s hm => hs m s hm

theorem m3fRead (addr : Addr) (bank : Nat) (s : State) : Kept s (m3fRead addr bank s).2 := by
  unfold Machine.m3fRead
  split <;> exact romByte _ s

theorem c0Ramw (e : Machine.cartAccess pickC0 addr acc c0WriteZoneRead (c0Store addr) s = .next t) : Kept s t :=
  cartAccess e (fun _ s _ => drew s) fun _ _ _ hm => setMapper (pickC0_tag hm) fun h =>
    setMapper_ok h (Mem.ok_write _ (a10_lt addr) (pickC0_ok hm h))

end

/-! ### E7 (R190 to R197) -/

section
variable {addr : Addr} {d : Byte} {acc : Access} {s t : State}

theorem e7Record {m m' : E7} (hm : pickE7 s.bus.mapper = some m) (hr : m.InRange → m'.InRange) :
    Kept s (s.setMapper (.e7 m')) :=
  setMapper (pickE7_tag hm) fun h => setMapper_e7_ok h (hr (pickE7_ok hm h))

/-- A row of the control window, whose selection is `f`. -/
theorem e7Select {f : E7 → E7}
    (e : Machine.cartAccess pickE7 addr acc (e7SelectRead f addr) (e7SelectWrite f) s = .next t)
    (hf : ∀ m : E7, m.InRange → (f m).InRange) : Kept s t :=
  cartAccess e (fun m _ hm => (e7Record hm (hf m)).trans (romByte _ _)) fun m _ _ hm => e7Record hm (hf m)

theorem e7Bank (b : Nat) (hb : b ≤ 6 ∨ b = 8)
    (e : Machine.cartAccess pickE7 addr acc (e7SelectRead (E7.select b) addr) (e7SelectWrite (E7.select b)) s =
      .next t) : Kept s t := e7Select e fun _ h => ⟨hb, h.2⟩

theorem e7RamBank (b : Nat) (hb : b < 4)
    (e : Machine.cartAccess pickE7 addr acc (e7SelectRead (E7.selectRam b) addr) (e7SelectWrite (E7.selectRam b)) s =
      .next t) : Kept s t := e7Select e fun _ h => ⟨h.1, hb, h.2.2⟩

theorem e7LowRd (e : Machine.cartRead pickE7 addr (e7LowLoad addr) s = .next t) : Kept s t :=
  cartRead e fun _ s _ => by
    unfold e7LowLoad
    split
    · exact romByte _ s
    split
    · exact drew s
    · exact refl s

theorem e7LowWr (e : Machine.cartWrite pickE7 addr d (e7LowStore addr d) s = .next t) : Kept s t :=
  cartWrite e fun _ s hm => by
    unfold e7LowStore
    split
    · exact e7Record hm fun ⟨hb, hrb, h1k, h256⟩ => ⟨hb, hrb, Mem.ok_write _ (a10_lt addr) h1k, h256⟩
    · exact refl s

theorem e7R256w (e : Machine.cartAccess pickE7 addr acc e7WritePortRead (e7Store addr) s = .next t) : Kept s t :=
  cartAccess e (fun _ s _ => drew s) fun m _ _ hm => e7Record hm fun ⟨hb, hrb, h1k, h256⟩ => by
    have hi : m.at256 addr < 1024 := by
      have := a8_lt addr
      unfold E7.at256
      omega
    exact ⟨hb, hrb, h1k, Mem.ok_write _ hi h256⟩

end

/-! ### DPC (R200 to R218) -/

section
variable {addr : Addr} {d : Byte} {acc : Access} {s t : State}

theorem dpcRecord {m m' : Dpc} (hm : pickDpc s.bus.mapper = some m)
    (hr : ∀ n, (Mapper.dpc m).ok n = true → (Mapper.dpc m').ok n = true) : Kept s (s.setMapper (.dpc m')) :=
  have hM := pickDpc_eq hm
  setMapper ((congrArg Mapper.tag hM).trans rfl) fun h => setMapper_ok h (hr _ (hM ▸ State.mapper_ok h))

theorem dpcBank (b : Nat) (hb : b < 2)
    (e : Machine.cartAccess pickDpc addr acc (dpcBankRead b addr) (dpcBankWrite b) s = .next t) : Kept s t := by
  have hs : ∀ (m : Dpc) (s : State), pickDpc s.bus.mapper = some m → Kept s (s.setMapper (.dpc (m.select b))) :=
    fun m s hm => dpcRecord hm fun n h => (Dpc.ok_iff _ n).2 ⟨hb, ((Dpc.ok_iff m n).1 h).2⟩
  exact cartAccess e (fun m s hm => (hs m s hm).trans (romByte _ _)) fun m _ s hm => hs m s hm

theorem dpcRom (e : Machine.cartAccess pickDpc addr acc (dpcRomRead addr) storeNothing s = .next t) : Kept s t :=
  cartLoad e fun _ s => by
    unfold dpcRomRead
    split
    · exact drew s
    · exact romByte _ s

/-- A read register keeps what its function's result keeps. -/
theorem dpcRead {result : Nat → Dpc → State → Byte × State}
    (e : Machine.cartRead pickDpc addr (dpcRegRead result addr) s = .next t)
    (hr : ∀ i m s, Kept s (result i m s).2) : Kept s t :=
  cartRead e fun m s hm => ⟨dpcRegRead_ok (fun i m s => (hr i m s).ok) addr m s hm, (hr _ _ s).inbox,
    fun _ => (congrArg Mapper.tag (pickDpc_eq hm)).symm⟩

theorem dpcWrite {f : Nat → Pointer → Pointer}
    (e : Machine.cartWrite pickDpc addr d (dpcPtrWrite f addr) s = .next t)
    (hf : ∀ i p, p.ok = true → (f i p).ok = true)
    (hm : ∀ i p, i < 5 → p.musicMode = false → (f i p).musicMode = false) : Kept s t :=
  cartWrite e fun m s hp => ⟨dpcPtrWrite_ok hf hm addr m s hp, rfl,
    fun _ => (congrArg Mapper.tag (pickDpc_eq hp)).symm⟩

theorem dpcWrHigh (e : Machine.cartWrite pickDpc addr d (dpcPtrWrite (Pointer.writeHigh d) addr) s = .next t) :
    Kept s t :=
  dpcWrite e (fun _ _ h => h) fun i p hi hp => by
    have h5 : ¬ 5 ≤ i := by omega
    simp only [Pointer.writeHigh, if_neg h5, hp]

theorem dpcWrRngReset (e : Machine.cartWrite pickDpc addr d dpcRngReset s = .next t) : Kept s t :=
  cartWrite e fun _ _ hm => dpcRecord hm fun _ h => h

theorem dpcWrNotImpl (e : Machine.cartWrite pickDpc addr d (dpcNotImplemented addr) s = .next t) : Kept s t :=
  cartWrite e fun m _ hm => (dpcRecord (m' := m.rngStep) hm fun _ h => h).trans (log _ _ addr _)

end

/-! ### "66" (R225 to R236) -/

section
variable {addr : Addr} {acc : Access} {s t : State}

theorem arRecord {m m' : Ar} (hm : pickAr s.bus.mapper = some m)
    (hr : ∀ n, (Mapper.ar66 m).ok n = true → (Mapper.ar66 m').ok n = true) : Kept s (s.setMapper (.ar66 m')) :=
  have hM := pickAr_eq hm
  setMapper ((congrArg Mapper.tag hM).trans rfl) fun h => setMapper_ok h (hr _ (hM ▸ State.mapper_ok h))

theorem arByte (addr : Addr) (m : Ar) (s : State) : Kept s (arByte addr m s).2 := by
  unfold Machine.arByte
  split
  · exact refl s
  · exact (log _ _ addr s).trans (drew _)

/-- A row that changes the record by `f`, which keeps the RAM and the hold counter. -/
theorem arTouch {f : Ar → Ar}
    (e : Machine.cartAccess pickAr addr acc (arTouchRead f addr) (arTouchWrite f) s = .next t)
    (hf : ∀ m, (f m).ram = m.ram ∧ (f m).heldCount = m.heldCount) : Kept s t := by
  have hs : ∀ (m : Ar) (s : State), pickAr s.bus.mapper = some m → Kept s (s.setMapper (.ar66 (f m))) :=
    fun m s hm => arRecord hm fun n h => by rwa [Ar.ok_iff, (hf m).1, (hf m).2, ← Ar.ok_iff m n]
  exact cartAccess e (fun m s hm => (hs m s hm).trans (arByte addr _ _)) fun m _ s hm => hs m s hm

theorem arLatch (e : Machine.cartAccess pickAr addr acc (arTouchRead (Ar.latch addr) addr)
    (arTouchWrite (Ar.latch addr)) s = .next t) : Kept s t :=
  arTouch e fun m => by unfold Ar.latch; split <;> exact ⟨rfl, rfl⟩

theorem arInitialize (h : s.bus.mapper.tag = .ar66) : Kept s (arInitialize s) where
  ok := arInitialize_ok
  inbox := by
    have hr : (arImageRam s).2.inbox = s.inbox :=
      fillDrawn_keeps (fun u => u.inbox = s.inbox) (fun _ hu => hu) _ _ _ rfl
    exact (((romByte _ _).trans (romByte _ _)).trans (romByte _ _)).inbox.trans hr
  tag _ := h.symm

theorem mapperInit (s : State) : Kept s (mapperInit s) := by
  unfold Machine.mapperInit
  split
  next h => exact arInitialize (congrArg Mapper.tag h)
  next => exact refl s

end

/-! ### The scheduler and the host's queries (R143, R440 to R446, R460 to R462) -/

theorem mapperTick (s : State) : Kept s (mapperTick s) :=
  setMapper (tickedMapper_tag s.bus).symm fun h => setMapper_ok h (tickedMapper_ok (State.mapper_ok h))

/-- The variant's own tick of `FE` (R184). -/
theorem feTick {s t : State} (e : execFeTick s = .next t) : Kept s t :=
  variantEvent e fun bank s hm => by
    have hb := pickFe_eq hm
    have ht : s.bus.tickedMapper = .fe (feNext s.bus.lastReadAddr bank) := by rw [Bus.tickedMapper, hb]
    rw [← ht]
    exact mapperTick s

theorem tiaTick (s : State) : Kept s (tiaTick s) where
  ok h := setTia_ok h (Tia.tick_ok _ (State.tia_ok h))
  inbox := rfl
  tag _ := rfl

theorem timerTick (s : State) : Kept s (timerTick s) where
  ok h := setTimer_ok h (Timer.tick_ok (State.timer_ok h))
  inbox := rfl
  tag _ := rfl

theorem apuTick (s : State) : Kept s (apuTick s) where
  ok h := setApu_ok h (Apu.tick_ok _ _ (State.apu_ok h))
  inbox := rfl
  tag _ := rfl

theorem cycleOnce (s : State) : Kept s (cycleOnce s) where
  ok := cycleOnce_ok
  inbox := cycleOnce_inbox s
  tag _ := by rw [cycleOnce_eq]; exact tickedMapper_tag s.bus

theorem sampleInput (s : State) : Kept s (sampleInput s) := ⟨sampleInput_ok, rfl, fun _ => rfl⟩

theorem runCycles (n : Nat) (s : State) : Kept s (runCycles n s) :=
  (cycleTimes_keeps (fun t h => h.trans (cycleOnce t)) n s (refl s)).trans (sampleInput _)

theorem execReadSound (n : Nat) {s t : State} (e : execReadSound n s = .next t) : Kept s t := by
  cases e
  refine ⟨fun h => answer_ok (setApu_ok h ?_), rfl, fun _ => rfl⟩
  obtain ⟨h0, h1, hclk, hacc, hlen, hmod⟩ := (Apu.ok_iff _).1 (State.apu_ok h)
  refine (Apu.ok_iff _).2 ⟨h0, h1, hclk, hacc, ?_⟩
  simp only [List.length_drop, soundCount]
  omega

theorem execSetInput {i : Input} {s t : State} (e : execSetInput i s = .next t) : Kept s t := by
  unfold Machine.execSetInput at e
  split at e
  next hi =>
    refine whileLive e fun s => ⟨fun h => ?_, rfl, fun _ => rfl⟩
    obtain ⟨h1, h2, h3, h4, h5, h6, -, h8⟩ := (State.ok_iff s).1 h
    exact (State.ok_iff _).2 ⟨h1, h2, h3, h4, h5, h6, hi, h8⟩
  next => cases e

end Kept

end Sys2Proof.Machine
end

section
/-! Every operation on its own (R22, R44): all but `POWERON` and `SNAPSHOT.LOAD` keep what `Kept` says; those two keep the
invariant if what they bring is in range (log entry 26). -/

namespace Sys2Proof

/-- Neither `STEP`, which is made of other operations, nor one of the two that bring a state from outside. -/
def Instr.single : Instr → Bool
  | .step _ | .snapshotLoad _ _ | .powerOn _ _ _ _ => false
  | _ => true

theorem Instr.single_or (i : Instr) : i.single = true ∨ (∃ events, i = .step events) ∨
    (∃ snap image, i = .snapshotLoad snap image) ∨ ∃ image format mode0 mode1, i = .powerOn image format mode0 mode1 := by
  unfold Instr.single
  split
  next events => exact .inr (.inl ⟨events, rfl⟩)
  next snap image => exact .inr (.inr (.inl ⟨snap, image, rfl⟩))
  next image format mode0 mode1 => exact .inr (.inr (.inr ⟨image, format, mode0, mode1, rfl⟩))
  next => exact .inl rfl

theorem Instr.single_ite {p : Prop} [Decidable p] {i j : Instr} (hi : i.single = true) (hj : j.single = true) :
    (if p then i else j).single = true := by
  split
  · exact hi
  · exact hj

end Sys2Proof

namespace Sys2Proof.Machine

namespace Kept

variable {s t : State}

/-- The rows of the bus and the events. -/
theorem exec_single : ∀ i, i.single = true → exec i s = .next t → Kept s t
  -- The write registers of the video chip: `tiaWrite` at the select of those that write an element with a range.
  | .vsync _ d => fun _ e => writeCycle e fun s => tiaWrite 0x00 d s
  | .vblank _ d => fun _ e => writeCycle e fun s => tiaWrite 0x01 d s
  | .resp0 _ d => fun _ e => writeCycle e fun s => tiaWrite 0x10 d s
  | .resp1 _ d => fun _ e => writeCycle e fun s => tiaWrite 0x11 d s
  | .resm0 _ d => fun _ e => writeCycle e fun s => tiaWrite 0x12 d s
  | .resm1 _ d => fun _ e => writeCycle e fun s => tiaWrite 0x13 d s
  | .resbl _ d => fun _ e => writeCycle e fun s => tiaWrite 0x14 d s
  | .wsync _ _ | .rsync _ _ | .nusiz0 _ _ | .nusiz1 _ _ | .colup0 _ _
  | .colup1 _ _ | .colupf _ _ | .colubk _ _ | .ctrlpf _ _ | .refp0 _ _
  | .refp1 _ _ | .pf0 _ _ | .pf1 _ _ | .pf2 _ _ | .audc0 _ _
  | .audc1 _ _ | .audf0 _ _ | .audf1 _ _ | .audv0 _ _ | .audv1 _ _
  | .grp0 _ _ | .grp1 _ _ | .enam0 _ _ | .enam1 _ _ | .enabl _ _
  | .hmp0 _ _ | .hmp1 _ _ | .hmm0 _ _ | .hmm1 _ _ | .hmbl _ _
  | .vdelp0 _ _ | .vdelp1 _ _ | .vdelbl _ _ | .resmp0 _ _ | .resmp1 _ _
  | .hmove _ _ | .hmclr _ _ | .cxclr _ _ | .tiaw2D _ _ | .tiaw2E _ _
  | .tiaw2F _ _ | .tiaw30 _ _ | .tiaw31 _ _ | .tiaw32 _ _ | .tiaw33 _ _
  | .tiaw34 _ _ | .tiaw35 _ _ | .tiaw36 _ _ | .tiaw37 _ _ | .tiaw38 _ _
  | .tiaw39 _ _ | .tiaw3A _ _ | .tiaw3B _ _ | .tiaw3C _ _ | .tiaw3D _ _
  | .tiaw3E _ _ | .tiaw3F _ _ => fun _ e => writeCycle e fun _ => same rfl rfl rfl
  -- The read registers of the video chip.
  | .cxm0p _ | .cxm1p _ | .cxp0fb _ | .cxp1fb _ | .cxm0fb _ | .cxm1fb _
  | .cxblpf _ | .cxppmm _ | .inpt4 _ | .inpt5 _ | .tiarE _ | .tiarF _ => fun _ e =>
    readCycle e fun _ => same rfl rfl rfl
  | .inpt0 _ | .inpt1 _ | .inpt2 _ | .inpt3 _ => fun _ e => readCycle e fun s => readPot _ s
  -- RAM, ports and timer.
  | .ramRd _ | .swchaRd _ | .swacntRd _ | .swchbRd _ | .swbcntRd _
  | .intim _ | .timint _ => fun _ e => readCycle e fun _ => same rfl rfl rfl
  | .ramWr a d => fun _ e => writeCycle e fun s => wrRam a d s
  | .swchaWr _ _ | .swacntWr _ _ | .swchbWr _ _ | .swbcntWr _ _ | .edgectl _ _ => fun _ e =>
    writeCycle e fun _ => same rfl rfl rfl
  | .tim1t _ d | .tim8t _ d | .tim64t _ d | .t1024t _ d => fun _ e =>
    writeCycle e fun s => wrTimer _ d s
  -- `Unknown` and the standard family.
  | .unkRom _ => fun _ e => cartRead e fun _ s _ => romByte _ s
  | .unkWr _ _ | .f8Wr _ _ | .f6Wr _ _ | .f4Wr _ _ => fun _ e => cartKeep e
  | .f8Bank0 _ _ | .f6Bank0 _ _ | .f4Bank0 _ _ => fun _ e => stdBank 0 (by decide) e
  | .f8Bank1 _ _ | .f6Bank1 _ _ | .f4Bank1 _ _ => fun _ e => stdBank 1 (by decide) e
  | .f6Bank2 _ _ | .f4Bank2 _ _ => fun _ e => stdBank 2 (by decide) e
  | .f6Bank3 _ _ | .f4Bank3 _ _ => fun _ e => stdBank 3 (by decide) e
  | .f4Bank4 _ _ => fun _ e => stdBank 4 (by decide) e
  | .f4Bank5 _ _ => fun _ e => stdBank 5 (by decide) e
  | .f4Bank6 _ _ => fun _ e => stdBank 6 (by decide) e
  | .f4Bank7 _ _ => fun _ e => stdBank 7 (by decide) e
  | .f8Scw _ _ | .f6Scw _ _ | .f4Scw _ _ => fun _ e => stdScw e
  | .f8Scr _ | .f6Scr _ | .f4Scr _ => fun _ e => stdScr e
  | .f8Rom _ | .f6Rom _ | .f4Rom _ => fun _ e => stdRom e
  -- FA, F0, E0, 3F, FE and C0.
  | .faBank0 _ _ => fun _ e => faBank 0 (by decide) e
  | .faBank1 _ _ => fun _ e => faBank 1 (by decide) e
  | .faBank2 _ _ => fun _ e => faBank 2 (by decide) e
  | .faRamw _ _ => fun _ e => faRamw e
  | .faRamr _ _ => fun _ e => cartLoad e fun _ s => refl s
  | .f0Next _ _ => fun _ e => f0Next e
  | .faRom _ _ | .f0Rom _ _ | .e0Rom _ _ | .feRom _ _ | .c0Rom _ _ => fun _ e =>
    cartLoad e fun _ s => romByte _ s
  | .e0S0 a _ => fun _ e => e0Select e fun _ h => ⟨a3_lt a, h.2⟩
  | .e0S1 a _ => fun _ e => e0Select e fun _ h => ⟨h.1, a3_lt a, h.2.2⟩
  | .e0S2 a _ => fun _ e => e0Select e fun _ h => ⟨h.1, h.2.1, a3_lt a⟩
  | .m3fBank a d => fun _ e => cartWrite e fun _ s _ => tiaWrite a d s
  | .m3fRom a _ => fun _ e => cartLoad e fun bank s => m3fRead a bank s
  | .c0Ramr _ _ => fun _ e => cartLoad e fun _ s => refl s
  | .c0Ramw _ _ => fun _ e => c0Ramw e
  -- E7.
  | .e7Bank0 _ _ => fun _ e => e7Bank 0 (by decide) e
  | .e7Bank1 _ _ => fun _ e => e7Bank 1 (by decide) e
  | .e7Bank2 _ _ => fun _ e => e7Bank 2 (by decide) e
  | .e7Bank3 _ _ => fun _ e => e7Bank 3 (by decide) e
  | .e7Bank4 _ _ => fun _ e => e7Bank 4 (by decide) e
  | .e7Bank5 _ _ => fun _ e => e7Bank 5 (by decide) e
  | .e7Bank6 _ _ => fun _ e => e7Bank 6 (by decide) e
  | .e7Ramon _ _ => fun _ e => e7Bank 8 (by decide) e
  | .e7Rbank0 _ _ => fun _ e => e7RamBank 0 (by decide) e
  | .e7Rbank1 _ _ => fun _ e => e7RamBank 1 (by decide) e
  | .e7Rbank2 _ _ => fun _ e => e7RamBank 2 (by decide) e
  | .e7Rbank3 _ _ => fun _ e => e7RamBank 3 (by decide) e
  | .e7LowRd _ => fun _ e => e7LowRd e
  | .e7LowWr _ _ => fun _ e => e7LowWr e
  | .e7R256w _ _ => fun _ e => e7R256w e
  | .e7R256r _ _ => fun _ e => cartLoad e fun _ s => refl s
  | .e7Fixed _ _ => fun _ e => cartLoad e fun _ s => romByte _ s
  -- DPC.
  | .dpcBank0 _ _ => fun _ e => dpcBank 0 (by decide) e
  | .dpcBank1 _ _ => fun _ e => dpcBank 1 (by decide) e
  | .dpcRom _ _ => fun _ e => dpcRom e
  | .dpcRdRng _ | .dpcRdMusic _ | .dpcRdFlag _ => fun _ e => dpcRead e fun _ _ s => refl s
  | .dpcRdData _ | .dpcRdGated _ | .dpcRdSwap _ | .dpcRdRev _ | .dpcRdRor _
  | .dpcRdRol _ => fun _ e => dpcRead e fun _ _ s => romByte _ s
  | .dpcWrTop _ _ => fun _ e => dpcWrite e (fun _ _ _ => rfl) fun _ _ _ h => h
  | .dpcWrBottom _ _ | .dpcWrLow _ _ => fun _ e => dpcWrite e (fun _ _ h => h) fun _ _ _ h => h
  | .dpcWrHigh _ _ => fun _ e => dpcWrHigh e
  | .dpcWrRngReset _ _ => fun _ e => dpcWrRngReset e
  | .dpcWrNotImpl _ _ => fun _ e => dpcWrNotImpl e
  -- "66".
  | .arLatch _ _ => fun _ e => arLatch e
  | .arCtrl _ _ => fun _ e => arTouch e fun _ => ⟨rfl, rfl⟩
  | .arMemRd a => fun _ e => cartRead e fun m s _ => arByte a m s
  | .arMemWr _ _ => fun _ e => cartKeep e
  -- The events.
  | .tiaTick => fun _ e => whileLive e tiaTick
  | .timerTick => fun _ e => whileLive e timerTick
  | .apuTick => fun _ e => whileLive e apuTick
  | .mapperTick => fun _ e => whileLive e mapperTick
  | .cycle => fun _ e => whileLive e cycleOnce
  | .run n => fun _ e => whileLive e (runCycles n)
  | .frameReady => fun _ e => by cases e; exact same rfl rfl rfl
  | .readFb | .snapshotSave | .formatClassify _ => fun _ e => by cases e; exact answer _ s
  | .step _ | .snapshotLoad _ _ | .powerOn _ _ _ _ => nofun
  | .readSound n => fun _ e => execReadSound n e
  | .setInput _ => fun _ e => execSetInput e
  | .mapperResolve a w => fun _ e =>
    whileLive e fun s => ⟨resolve_ok a w, (resolve_frame a w s).inbox, fun h => by rw [resolve_of_known h]⟩
  | .mapperInit => fun _ e => whileLive e mapperInit
  | .inputSample => fun _ e => whileLive e sampleInput
  | .feTick => fun _ e => feTick e
  | .dpcTick => fun _ e => variantEvent e fun _ _ hm => dpcRecord hm fun n h => Dpc.tick_ok n h
  | .arTick => fun _ e => variantEvent e fun _ _ hm => arRecord hm fun n h => Ar.tick_ok _ n h
  | .ar66Initialize => fun _ e => variantEvent e fun _ _ hm => arInitialize (congrArg Mapper.tag (pickAr_eq hm))

end Kept

/-! ## `STEP`: the bus rows one after the other (R440) -/

/-- The rows of the video chip's write registers (R94). -/
theorem decodeTiaWrite_single (addr : Addr) (d : Byte) : (decodeTiaWrite addr d).single = true := by
  unfold decodeTiaWrite tiaWriteRow
  split <;> rfl

theorem decodeTiaRead_single (addr : Addr) : (decodeTiaRead addr).single = true := by
  unfold decodeTiaRead tiaReadRow
  split <;> rfl

theorem decodeIo_single (addr : Addr) (acc : Access) : (decodeIo addr acc).single = true := by
  cases acc with
  | rd =>
    unfold decodeIo portReadRow
    refine Instr.single_ite ?_ (Instr.single_ite rfl rfl)
    split <;> rfl
  | wr d =>
    unfold decodeIo portWriteRow timerWriteRow
    refine Instr.single_ite ?_ (Instr.single_ite ?_ rfl) <;> split <;> rfl

theorem decodeDpc_single (addr : Addr) (acc : Access) : (decodeDpc addr acc).single = true := by
  cases acc with
  | rd =>
    have hr : (dpcReadRow (dpcFunction addr) addr).single = true := by
      unfold dpcReadRow
      split
      case h_1 => exact Instr.single_ite rfl rfl
      all_goals rfl
    exact Instr.single_ite rfl (Instr.single_ite rfl (Instr.single_ite hr (Instr.single_ite rfl rfl)))
  | wr d =>
    have hw : (dpcWriteRow (dpcFunction addr) addr d).single = true := by
      unfold dpcWriteRow
      split <;> rfl
    exact Instr.single_ite rfl (Instr.single_ite rfl (Instr.single_ite rfl (Instr.single_ite hw rfl)))

/-- Every cartridge format is a chain of choices between rows (R97). -/
theorem decodeCart_single (tag : Tag) (addr : Addr) (acc : Access) : (decodeCart tag addr acc).single = true := by
  cases tag
  case dpc => exact decodeDpc_single addr acc
  all_goals
    cases acc
    all_goals
      dsimp only [decodeCart, decodeUnknown, decodeF8, decodeF6, decodeF4, decodeFA, decodeF0, decodeE0, decodeE7,
        decodeAr, decodeC0]
      repeat' apply Instr.single_ite
    all_goals rfl

/-- A bus request is never `STEP`, `POWERON` or `SNAPSHOT.LOAD` (R91, R92). -/
theorem decodeBus_single (tag : Tag) (addr : Addr) (acc : Access) : (decodeBus tag addr acc).single = true := by
  unfold decodeBus
  cases region addr with
  | cart => exact decodeCart_single tag addr acc
  | ram => cases acc <;> rfl
  | io => exact decodeIo_single addr acc
  | tia =>
    cases acc with
    | rd => exact decodeTiaRead_single addr
    | wr d => exact Instr.single_ite rfl (decodeTiaWrite_single addr d)

namespace Kept

/-- A bus transaction is the operation of its row. -/
theorem busTransaction {s : State} (addr : Addr) (acc : Access) (hl : s.fatal = none) :
    Kept s (busTransaction addr acc s) :=
  exec_single _ (decodeBus_single _ addr acc) (exec_decodeBus hl)

/-- The events of an instruction, by induction on them; no event ends the run (R481). -/
theorem runEvents (events : List CoreEvent) (seen : List Byte) {s : State} (hl : s.fatal = none) :
    Kept s (runEvents events seen s).2 := by
  induction events generalizing seen s with
  | nil => exact refl s
  | cons e rest ih =>
    cases e with
    | rd addr => exact (busTransaction addr .rd hl).trans (ih _ ((busTransaction_fatal addr .rd s).trans hl))
    | wr addr d => exact (busTransaction addr (.wr d) hl).trans (ih _ ((busTransaction_fatal addr (.wr d) s).trans hl))
    | run n => exact ((runCycles n s).trans (answer _ _)).trans (ih _ ((runCycles_fatal n s).trans hl))

theorem execStep {events : List CoreEvent} {s t : State} (e : execStep events s = .next t) : Kept s t := by
  unfold Machine.execStep at e
  split at e
  next => cases e; exact refl s
  next hl =>
    split at e <;> cases e
    · exact (runCycles 1 s).trans (answer _ _)
    · exact (runEvents events [] ((State.ended_iff s).1 (Bool.eq_false_iff.2 hl))).trans (answer _ _)

/-- Every operation but the two that bring a state from outside. -/
theorem exec {i : Instr} {s t : State} (hp : ∀ image format mode0 mode1, i ≠ .powerOn image format mode0 mode1)
    (hl : ∀ snap image, i ≠ .snapshotLoad snap image) (e : exec i s = .next t) : Kept s t := by
  obtain h | ⟨events, rfl⟩ | ⟨snap, image, rfl⟩ | ⟨image, format, mode0, mode1, rfl⟩ := i.single_or
  · exact exec_single i h e
  · exact execStep e
  · exact absurd rfl (hl snap image)
  · exact absurd rfl (hp image format mode0 mode1)

end Kept

/-! ## `SNAPSHOT.LOAD` and `POWERON` -/

theorem loadSnapshot_inbox (snap : Snapshot) (image : Image) (s : State) :
    (loadSnapshot snap image s).inbox = s.inbox := by
  unfold loadSnapshot loadCurrent
  split
  · rfl
  split
  · rfl
  · split <;> rfl

/-- A `3F` image that is chosen by its hash has a bank (R141, R144). -/
theorem detectedTag_m3f {image : Image} (h : detectedTag image = some .m3f) : 2048 ≤ image.size := by
  unfold detectedTag at h
  split at h
  · cases h
  split at h
  next v _ =>
    obtain ⟨hf, rfl⟩ : fitsLength v image.size = true ∧ v = .m3f := by
      simpa only [Option.ite_none_right_eq_some, Option.some.injEq] using h
    have hn : image.size = 8192 := eq_of_beq hf
    omega
  next =>
    unfold tagBySize at h
    split at h
    · cases h
    split at h
    · cases h
    split at h <;> cases h

theorem detect_ok {s : State} (h : s.ok = true) : (detect s).ok = true := by
  unfold detect
  split
  next v hv => exact setMapper_ok h (fresh_ok v _ fun e => detectedTag_m3f (e ▸ hv))
  next => exact h

/-- `POWERON` from any state: the new one is in range if the image is, and the requests wait on. -/
theorem execPowerOn_ok {image : Image} {format : TvFormat} {mode0 mode1 : ControllerMode} {s t : State}
    (h : image.ok = true) (e : execPowerOn image format mode0 mode1 s = .next t) :
    t.ok = true ∧ t.inbox = s.inbox := by
  cases e
  have hd := detect_ok (freshState_ok format mode0 mode1 s h)
  have hi : (detect (freshState image format mode0 mode1 s)).inbox = s.inbox := by
    unfold detect
    split <;> rfl
  unfold finishPowerOn
  split
  · exact ⟨hd, hi⟩
  · have hm := Kept.mapperInit (detect (freshState image format mode0 mode1 s))
    exact ⟨hm.ok hd, hm.inbox.trans hi⟩

/-! ## The step -/

/-- What a request brings to the operation it stands for: nothing, the events of an instruction, or, where it is an event
with the matching operand, a snapshot or the arguments of power-on (R98). -/
def Brings (r : Request) (i : Instr) : Prop :=
  i.single = true ∨ (∃ events, i = .step events) ∨
    (∃ code snap image, r = .event code (.snapshot snap image) ∧ i = .snapshotLoad snap image) ∨
    ∃ code image format mode0 mode1,
      r = .event code (.power image format mode0 mode1) ∧ i = .powerOn image format mode0 mode1

theorem brings_of_decodeEvent {tag : Tag} {code : BitVec 8} {op : Operand} {i : Instr}
    (h : decodeEvent tag code op = some i) : Brings (.event code op) i := by
  by_cases hc : 0x11 < code.toNat
  · rw [decodeEvent_reserved tag op hc] at h
    cases h
  have hk : code.toNat < 18 := by omega
  unfold decodeEvent at h
  generalize code.toNat = k at h hk
  match k, hk with
  | 0x02, _ | 0x0F, _ =>
    -- The arms of `MAPPER.TICK` and `MAPPER.INIT` are picked by the tag.
    cases op with
    | none => cases tag <;> cases h <;> exact .inl rfl
    | _ => cases h
  | 0x06, _ =>
    cases op with
    | core events => cases h; exact .inr (.inl ⟨events, rfl⟩)
    | _ => cases h
  | 0x0C, _ =>
    cases op with
    | snapshot snap image => cases h; exact .inr (.inr (.inl ⟨code, snap, image, rfl, rfl⟩))
    | _ => cases h
  | 0x0D, _ =>
    cases op with
    | power image format mode0 mode1 =>
      cases h
      exact .inr (.inr (.inr ⟨code, image, format, mode0, mode1, rfl, rfl⟩))
    | _ => cases h
  | 0x00, _ | 0x01, _ | 0x03, _ | 0x04, _ | 0x05, _ | 0x07, _ | 0x08, _ | 0x09, _ | 0x0A, _ | 0x0B, _ | 0x0E, _
  | 0x10, _ | 0x11, _ =>
    cases op <;> cases h
    exact .inl rfl

theorem brings_of_operationOf {r : Request} {i : Instr} {s : State} (h : operationOf r s = some i) : Brings r i := by
  cases r with
  | read addr => exact .inl (Option.some.inj h ▸ decodeBus_single _ addr .rd)
  | write addr d => exact .inl (Option.some.inj h ▸ decodeBus_single _ addr (.wr d))
  | event code op => exact brings_of_decodeEvent h

theorem execSnapshotLoad_ok {code : BitVec 8} {snap : Snapshot} {image : Image} {s t : State}
    (hr : Request.ok (.event code (.snapshot snap image)) = true) (h : s.ok = true)
    (e : execSnapshotLoad snap image s = .next t) : t.ok = true ∧ t.inbox = s.inbox := by
  unfold execSnapshotLoad at e
  split at e <;> cases e
  exact ⟨loadSnapshot_ok hr h, loadSnapshot_inbox snap image s⟩

/-- The operation of a request that is in range keeps the invariant and the requests behind it. -/
theorem exec_ok_of_request {r : Request} {i : Instr} {s s' t : State} (hi : operationOf r s' = some i)
    (hr : r.ok = true) (h : s.ok = true) (e : exec i s = .next t) : t.ok = true ∧ t.inbox = s.inbox := by
  obtain hs | ⟨events, rfl⟩ | ⟨code, snap, image, rfl, rfl⟩ | ⟨code, image, format, mode0, mode1, rfl, rfl⟩ :=
    brings_of_operationOf hi
  · exact ⟨(Kept.exec_single i hs e).ok h, (Kept.exec_single i hs e).inbox⟩
  · exact ⟨(Kept.execStep e).ok h, (Kept.execStep e).inbox⟩
  · exact execSnapshotLoad_ok hr h e
  · exact execPowerOn_ok hr e

theorem State.safe_iff (s : State) : s.safe = true ↔ s.ok = true ∧ s.inbox.all Request.ok = true := by
  rw [State.safe, Bool.and_eq_true]

/-- One step keeps the invariant. -/
theorem step_safe {s t : State} (h : s.safe = true) (e : step s = .next t) : t.safe = true := by
  obtain ⟨hok, hin⟩ := (State.safe_iff s).1 h
  cases hb : s.inbox with
  | nil =>
    rw [step_idle hb] at e
    cases e
    exact h
  | cons r rest =>
    rw [hb, List.all_cons, Bool.and_eq_true] at hin
    obtain ⟨hr, hrest⟩ := hin
    cases hi : operationOf r s with
    | none =>
      rw [step_of_no_operation hb hi] at e
      cases e
    | some i =>
      rw [step_of_operation hb hi] at e
      obtain ⟨ht, htin⟩ := exec_ok_of_request hi hr (s := { s with inbox := rest }) hok e
      exact (State.safe_iff t).2 ⟨ht, htin ▸ hrest⟩

end Sys2Proof.Machine

namespace Sys2Proof.Proofs

open Sys2Proof Sys2Proof.Machine

/-- Settles O60: the oldest request is in range, so its operation keeps the ranges, and the other requests wait on. -/
theorem stepKeepsInvariant : Obligations.StepKeepsInvariant := fun _ _ h e => step_safe h e

/-- Settles O8: an operation that brings no state from outside keeps the tag of an active variant. -/
theorem detectionIsSticky : Obligations.DetectionIsSticky := fun _ _ _ hp hl h e => (Kept.exec hp hl e).tag h

/-- Settles O59: every range of the reset state is computed. -/
theorem invariantAtReset : Obligations.InvariantAtReset := by
  unfold Obligations.InvariantAtReset
  decide

end Sys2Proof.Proofs
end

section
/-! A colour clock's collisions and pixel (R320, R321, R333 to R336), and the reset values (R511). -/

namespace Sys2Proof.Machine

/-! ## The two things a visible clock writes -/

/-- A tick accumulates collisions at a visible clock, with the objects after the missile lock. -/
theorem tick_cx (fmt : TvFormat) (t : Tia) : (t.tick fmt).cx =
    if 0 ≤ t.x then
      let b := objectBits (lockMissiles t) t.x
      t.cx.accumulate b.p0 b.p1 b.m0 b.m1 b.bl b.pf
    else t.cx := by
  rw [tick_eq]
  rfl

/-- A tick stores the pixel at a visible clock. -/
theorem tick_fb (fmt : TvFormat) (t : Tia) : (t.tick fmt).fb =
    if 0 ≤ t.x then
      fbWrite t.fb t.y t.x (pixelRgba fmt (lockMissiles t) t.x (objectBits (lockMissiles t) t.x))
    else t.fb := by
  rw [tick_eq]
  rfl

theorem exec_tiaTick_live {s : State} (hl : s.fatal = none) :
    exec .tiaTick s = .next ((s.setTia (s.tia.tick s.tvFormat)).answer .none) := whileLive_live hl

/-! ## The framebuffer -/

/-- A byte after a pixel is stored: one of the four, or the old one. -/
theorem Mem.read_writePixel (fb : Mem) (o k : Nat) (c : Config.Rgba) : (fb.writePixel o c).read k =
    if k = o then c.r else if k = o + 1 then c.g else if k = o + 2 then c.b else if k = o + 3 then c.a
    else fb.read k := by
  simp only [Mem.writePixel, Mem.read_write]
  grind

theorem fbWrite_outside {fb : Mem} {y x : Int} {c : Config.Rgba} (h : y < 0 ∨ 264 ≤ y) : fbWrite fb y x c = fb := by
  unfold fbWrite Config.fbH
  exact if_neg (by omega)

/-- On a stored line the pixel's first byte is at `4 * (160 * y + x)` (R24, R336). -/
theorem read_fbWrite {fb : Mem} {y x : Int} (c : Config.Rgba) (hx : 0 ≤ x) (hy : 0 ≤ y) (hy' : y < 264) (k : Nat) :
    (fbWrite fb y x c).read k =
      if (k : Int) = 4 * (y * 160 + x) then c.r
      else if (k : Int) = 4 * (y * 160 + x) + 1 then c.g
      else if (k : Int) = 4 * (y * 160 + x) + 2 then c.b
      else if (k : Int) = 4 * (y * 160 + x) + 3 then c.a
      else fb.read k := by
  have ho : (pixelOffset y.toNat x.toNat : Int) = 4 * (y * 160 + x) := by
    unfold pixelOffset Config.fbW
    omega
  have hw : fbWrite fb y x c = fb.writePixel (pixelOffset y.toNat x.toNat) c := if_pos ⟨hy, hy'⟩
  rw [hw, Mem.read_writePixel, ← ho]
  generalize pixelOffset y.toNat x.toNat = o
  norm_cast

/-! ## The pixel -/

theorem blanked_iff (t : Tia) (x : Int) : blanked t x = true ↔ t.vblankBlank = true ∨ (t.comb = true ∧ x < 8) := by
  show (t.vblankBlank || (t.comb && decide (x < 8))) = true ↔ _
  simp only [Bool.or_eq_true, Bool.and_eq_true, decide_eq_true_eq]

/-- The pixel's bytes: an RGB triple, black where the pixel is blanked, and alpha 0xFF (R335, R336). -/
theorem pixelRgba_eq (fmt : TvFormat) (t : Tia) (x : Int) (b : Bits) : pixelRgba fmt t x b =
    shown (if t.vblankBlank = true ∨ (t.comb = true ∧ x < 8) then ⟨0, 0, 0⟩
      else Config.palette fmt ((pixelColour t x b).extractLsb' 1 7)) := by
  simp only [pixelRgba, blanked_iff]
  split <;> rfl

end Sys2Proof.Machine

namespace Sys2Proof.Proofs

open Sys2Proof Sys2Proof.Machine

/-- Settles O41: the latches of a tick are the accumulated ones at a visible clock, else the old ones. -/
theorem tickCollisions : Obligations.TickCollisions := by
  rintro s b hl rfl
  refine ⟨_, exec_tiaTick_live hl, fun hx => ?_, fun hx => ?_⟩
  · exact (tick_cx s.tvFormat s.tia).trans (if_neg (by omega))
  · have h := (tick_cx s.tvFormat s.tia).trans (if_pos hx)
    simp only [State.answer_tia, State.setTia_tia, h, List.forall_mem_cons]
    exact ⟨rfl, rfl, rfl, rfl, rfl, rfl, rfl, rfl, rfl, rfl, rfl, rfl, rfl, rfl, rfl, nofun⟩

/-- Settles O42: the priority's cases, and the bytes a visible clock stores. -/
theorem tickPixel : Obligations.TickPixel := by
  refine ⟨fun t x b => ?_, ?_⟩
  · simp only [Bool.or_eq_false_iff]
    refine ⟨?_, ?_, ?_, ?_, ?_, ?_, ?_, ?_, ?_⟩
    -- In each case the conditions decide every test on the way to the colour.
    all_goals
      intros
      simp [pixelColour, *]
  · rintro s u c hl rfl rfl
    refine ⟨_, exec_tiaTick_live hl, fun h => ?_, fun hx hy hy' k => ?_⟩
    · refine (tick_fb s.tvFormat s.tia).trans ?_
      split
      · exact fbWrite_outside (by omega)
      · rfl
    · have h := (tick_fb s.tvFormat s.tia).trans (if_pos hx)
      simp only [State.answer_tia, State.setTia_tia, h, read_fbWrite _ hx hy hy', pixelRgba_eq]
      rfl

/-- Settles O55, element by element. -/
theorem resetValues : Obligations.ResetValues := by
  refine ⟨rfl, rfl, rfl, rfl, rfl, rfl, rfl, rfl, rfl, rfl, rfl, rfl, rfl, rfl, rfl, rfl, rfl, rfl, rfl, rfl, rfl, rfl,
    rfl, rfl, rfl, rfl, rfl, ⟨resetPointers, rfl, fun i _ => ?_⟩, rfl, rfl⟩
  unfold Pointers.get
  split <;> rfl

end Sys2Proof.Proofs
end

section
/-! Encoding and decoding (R91, R92, R94 to R100, R102): what the decoder answers is well-formed and encoded as the
request it was read from, which with `statement_all` makes the two inverse; what the rows of the tables of R94 to R96
ask of an address; and the unassigned selects (R287, R304). -/

namespace Sys2Proof.Machine

/-! ## The rows' conditions on an address, bit by bit -/

theorem cartAt_self (t : Tag) {addr : Addr} (hr : region addr = .cart) : cartAt t t addr = true :=
  (cartAt_iff t t addr).2 ⟨rfl, hr⟩

theorem hotspot_eq_false (k : StdKind) (a : Nat) : k.hotspot a = false ↔ ¬ (k.hot ≤ a ∧ a < k.hot + k.nbanks) := by
  rw [← hotspot_iff, Bool.not_eq_true]

theorem dpcReadAt_iff (addr : Addr) (f : Nat) :
    dpcReadAt addr f = true ↔ a13 addr ≤ 0x103F ∧ dpcFunction addr = f := by
  simp only [dpcReadAt, Bool.and_eq_true, decide_eq_true_eq, beq_iff_eq]

theorem dpcWriteAt_iff (addr : Addr) (f : Nat) :
    dpcWriteAt addr f = true ↔ (0x1040 ≤ a13 addr ∧ a13 addr ≤ 0x107F) ∧ dpcFunction addr = f := by
  simp only [dpcWriteAt, Bool.and_eq_true, within_iff, beq_iff_eq]

theorem dpcRomAt_rd_iff (addr : Addr) :
    dpcRomAt addr .rd = true ↔ 0x1040 ≤ a13 addr ∧ ¬ (0x1FF8 ≤ a13 addr ∧ a13 addr ≤ 0x1FF9) := by
  simp only [dpcRomAt, Bool.and_eq_true, decide_eq_true_eq, Bool.not_eq_true', within_eq_false]

theorem dpcRomAt_wr_iff (addr : Addr) (d : Byte) : dpcRomAt addr (.wr d) = true ↔
    (a13 addr ≤ 0x103F ∨ 0x1080 ≤ a13 addr) ∧ ¬ (0x1FF8 ≤ a13 addr ∧ a13 addr ≤ 0x1FF9) := by
  simp only [dpcRomAt, Bool.and_eq_true, Bool.or_eq_true, decide_eq_true_eq, Bool.not_eq_true', within_eq_false]

theorem tiaWriteAt_bits (tag : Tag) (addr : Addr) (k : Nat) : tiaWriteAt tag addr k = true ↔
    addr.getLsbD 12 = false ∧ addr.getLsbD 7 = false ∧ addr.toNat % 64 = k ∧
      ¬ (tag = .m3f ∧ addr.toNat % 8192 ≤ 0x003F) := by
  rw [tiaWriteAt_iff, region_tia_iff, and_assoc]
  rfl

theorem tiaReadAt_bits (addr : Addr) (k : Nat) : tiaReadAt addr k = true ↔
    addr.getLsbD 12 = false ∧ addr.getLsbD 7 = false ∧ addr.toNat % 16 = k := by
  rw [tiaReadAt_iff, region_tia_iff, and_assoc]
  rfl

theorem portAt_bits (addr : Addr) (k : Nat) : portAt addr k = true ↔
    addr.getLsbD 12 = false ∧ addr.getLsbD 9 = true ∧ addr.getLsbD 7 = true ∧ addr.getLsbD 2 = false ∧
      addr.toNat % 4 = k := by
  rw [portAt_iff, region_io_iff, and_assoc, and_assoc]
  rfl

theorem timerReadAt_bits (addr : Addr) (b : Bool) : timerReadAt addr b = true ↔
    addr.getLsbD 12 = false ∧ addr.getLsbD 9 = true ∧ addr.getLsbD 7 = true ∧ addr.getLsbD 2 = true ∧
      addr.getLsbD 0 = b := by
  rw [timerReadAt_iff, region_io_iff, and_assoc, and_assoc]

theorem timerWriteAt_bits (addr : Addr) (k : Nat) : timerWriteAt addr k = true ↔
    addr.getLsbD 12 = false ∧ addr.getLsbD 9 = true ∧ addr.getLsbD 7 = true ∧ addr.getLsbD 2 = true ∧
      addr.getLsbD 4 = true ∧ addr.toNat % 4 = k := by
  rw [timerWriteAt_iff, region_io_iff, and_assoc, and_assoc]
  rfl

theorem edgeAt_bits (addr : Addr) : edgeAt addr = true ↔
    addr.getLsbD 12 = false ∧ addr.getLsbD 9 = true ∧ addr.getLsbD 7 = true ∧ addr.getLsbD 2 = true ∧
      addr.getLsbD 4 = false := by
  rw [edgeAt_iff, region_io_iff, and_assoc, and_assoc]

end Sys2Proof.Machine

namespace Sys2Proof.Laws.RoundTrip

open Sys2Proof.Machine

/-! ## The rows by select (R94 to R96): the request, and the condition on the address -/

section
variable {k : Nat}

theorem tiaWriteRow_issued (hk : k < 64) (addr : Addr) (d : Byte) : encode (tiaWriteRow k addr d) = .write addr d ∧
    ∀ tag, (tiaWriteRow k addr d).wellFormed tag = tiaWriteAt tag addr k := by
  match k, hk with
  | 0, _ | 1, _ | 2, _ | 3, _ | 4, _ | 5, _ | 6, _ | 7, _ | 8, _ | 9, _ | 10, _ | 11, _ | 12, _ | 13, _ | 14, _
  | 15, _ | 16, _ | 17, _ | 18, _ | 19, _ | 20, _ | 21, _ | 22, _ | 23, _ | 24, _ | 25, _ | 26, _ | 27, _ | 28, _
  | 29, _ | 30, _ | 31, _ | 32, _ | 33, _ | 34, _ | 35, _ | 36, _ | 37, _ | 38, _ | 39, _ | 40, _ | 41, _ | 42, _
  | 43, _ | 44, _ | 45, _ | 46, _ | 47, _ | 48, _ | 49, _ | 50, _ | 51, _ | 52, _ | 53, _ | 54, _ | 55, _ | 56, _
  | 57, _ | 58, _ | 59, _ | 60, _ | 61, _ | 62, _ | 63, _ => exact ⟨rfl, fun _ => rfl⟩
  | n + 64, h => exact absurd h (by omega)

theorem tiaReadRow_issued (hk : k < 16) (addr : Addr) : encode (tiaReadRow k addr) = .read addr ∧
    ∀ tag, (tiaReadRow k addr).wellFormed tag = tiaReadAt addr k := by
  match k, hk with
  | 0, _ | 1, _ | 2, _ | 3, _ | 4, _ | 5, _ | 6, _ | 7, _ | 8, _ | 9, _ | 10, _ | 11, _ | 12, _ | 13, _ | 14, _
  | 15, _ => exact ⟨rfl, fun _ => rfl⟩
  | n + 16, h => exact absurd h (by omega)

theorem portReadRow_issued (hk : k < 4) (addr : Addr) : encode (portReadRow k addr) = .read addr ∧
    ∀ tag, (portReadRow k addr).wellFormed tag = portAt addr k := by
  match k, hk with
  | 0, _ | 1, _ | 2, _ | 3, _ => exact ⟨rfl, fun _ => rfl⟩

theorem portWriteRow_issued (hk : k < 4) (addr : Addr) (d : Byte) : encode (portWriteRow k addr d) = .write addr d ∧
    ∀ tag, (portWriteRow k addr d).wellFormed tag = portAt addr k := by
  match k, hk with
  | 0, _ | 1, _ | 2, _ | 3, _ => exact ⟨rfl, fun _ => rfl⟩

theorem timerWriteRow_issued (hk : k < 4) (addr : Addr) (d : Byte) :
    encode (timerWriteRow k addr d) = .write addr d ∧
      ∀ tag, (timerWriteRow k addr d).wellFormed tag = timerWriteAt addr k := by
  match k, hk with
  | 0, _ | 1, _ | 2, _ | 3, _ => exact ⟨rfl, fun _ => rfl⟩

end

/-! ## What the decoder answers -/

/-- The operation is one that an agent issues, under the tag, as the request. -/
structure IssuedAs (tag : Tag) (r : Request) (i : Instr) : Prop where
  wellFormed : i.wellFormed tag = true
  encoded : encode i = r

namespace IssuedAs

variable {tag : Tag} {addr : Addr} {d : Byte} {k : Nat}

/-- A decoder's choice between two rows: each in its own case. -/
theorem ite {p : Prop} [Decidable p] {r : Request} {i j : Instr} (hi : p → IssuedAs tag r i)
    (hj : ¬ p → IssuedAs tag r j) : IssuedAs tag r (if p then i else j) := by
  split
  next h => exact hi h
  next h => exact hj h

/-- A row whose encoding and condition are known. -/
theorem of_row {r : Request} {i : Instr} {cond : Tag → Bool} (hi : encode i = r ∧ ∀ tag, i.wellFormed tag = cond tag)
    (h : cond tag = true) : IssuedAs tag r i := ⟨(hi.2 tag).trans h, hi.1⟩

/-! ### Ports and timer (R96, R360) -/

theorem decodeIo (acc : Access) (hr : region addr = .io) :
    IssuedAs tag (busRequest addr acc) (decodeIo addr acc) := by
  cases acc with
  | rd =>
    refine ite (fun ht => ?_) fun ht => ?_
    · have h2 : addr.getLsbD 2 = false := by simpa only [timerSelect, Bool.not_eq_true'] using ht
      exact of_row (portReadRow_issued (a2_lt addr) addr) ((portAt_iff _ _).2 ⟨hr, h2, rfl⟩)
    · have h2 : addr.getLsbD 2 = true := by simpa only [timerSelect, Bool.not_eq_true', Bool.not_eq_false] using ht
      refine ite (fun h0 => ⟨?_, rfl⟩) fun h0 => ⟨?_, rfl⟩
      · exact (timerReadAt_iff _ _).2 ⟨hr, h2, h0⟩
      · exact (timerReadAt_iff _ _).2 ⟨hr, h2, Bool.eq_false_iff.2 h0⟩
  | wr d =>
    refine ite (fun ht => ?_) fun ht => ?_
    · have h2 : addr.getLsbD 2 = false := by simpa only [timerSelect, Bool.not_eq_true'] using ht
      exact of_row (portWriteRow_issued (a2_lt addr) addr d) ((portAt_iff _ _).2 ⟨hr, h2, rfl⟩)
    · have h2 : addr.getLsbD 2 = true := by simpa only [timerSelect, Bool.not_eq_true', Bool.not_eq_false] using ht
      refine ite (fun h4 => ?_) fun h4 => ⟨(edgeAt_iff _).2 ⟨hr, h2, Bool.eq_false_iff.2 h4⟩, rfl⟩
      exact of_row (timerWriteRow_issued (a2_lt addr) addr d) ((timerWriteAt_iff _ _).2 ⟨hr, h2, h4, rfl⟩)

/-! ### Cartridge space (R97) -/

/-- The DPC read register with function `k`; function 0 is two rows, by the pointer index. -/
theorem dpcReadRow (hk : k < 8) (hr : region addr = .cart) (h : dpcReadAt addr k = true) :
    IssuedAs .dpc (.read addr) (dpcReadRow k addr) := by
  have hc : (cartAt .dpc .dpc addr && dpcReadAt addr k) = true := Bool.and_eq_true_iff.2 ⟨cartAt_self .dpc hr, h⟩
  match k, hk with
  | 0, _ =>
    refine ite (fun h4 => ⟨Bool.and_eq_true_iff.2 ⟨hc, ?_⟩, rfl⟩) fun h4 => ⟨Bool.and_eq_true_iff.2 ⟨hc, ?_⟩, rfl⟩
    · exact decide_eq_true h4
    · exact decide_eq_true (Nat.le_of_not_lt h4)
  | 1, _ | 2, _ | 3, _ | 4, _ | 5, _ | 6, _ | 7, _ => exact ⟨hc, rfl⟩

/-- The DPC write register with function `k`; the functions 4, 5 and 7 are one row. -/
theorem dpcWriteRow (hk : k < 8) (hr : region addr = .cart) (h : dpcWriteAt addr k = true) :
    IssuedAs .dpc (.write addr d) (dpcWriteRow k addr d) := by
  have hc := cartAt_self .dpc hr
  match k, hk with
  | 0, _ | 1, _ | 2, _ | 3, _ | 6, _ => exact ⟨Bool.and_eq_true_iff.2 ⟨hc, h⟩, rfl⟩
  | 4, _ | 5, _ | 7, _ =>
    refine ⟨Bool.and_eq_true_iff.2 ⟨hc, ?_⟩, rfl⟩
    simp only [h, Bool.or_true, Bool.true_or]

theorem decodeDpc (acc : Access) (hr : region addr = .cart) :
    IssuedAs .dpc (busRequest addr acc) (decodeDpc addr acc) := by
  have row {b : Bool} (h : b = true) : (cartAt .dpc .dpc addr && b) = true :=
    Bool.and_eq_true_iff.2 ⟨cartAt_self .dpc hr, h⟩
  refine ite (fun h => ⟨row (beq_iff_eq.2 h), rfl⟩) fun h8 => ite (fun h => ⟨row (beq_iff_eq.2 h), rfl⟩) fun h9 => ?_
  refine ite (fun h1 => ?reads) fun h1 => ite (fun h2 => ?writes) fun h2 => ?rom
  case reads =>
    cases acc with
    | rd => exact dpcReadRow (dpcFunction_lt addr) hr ((dpcReadAt_iff _ _).2 ⟨h1, rfl⟩)
    | wr d => exact ⟨row ((dpcRomAt_wr_iff addr d).2 (by omega)), rfl⟩
  case writes =>
    cases acc with
    | rd => exact ⟨row ((dpcRomAt_rd_iff addr).2 (by omega)), rfl⟩
    | wr d => exact dpcWriteRow (dpcFunction_lt addr) hr ((dpcWriteAt_iff _ _).2 ⟨by omega, rfl⟩)
  case rom =>
    cases acc with
    | rd => exact ⟨row ((dpcRomAt_rd_iff addr).2 (by omega)), rfl⟩
    | wr d => exact ⟨row ((dpcRomAt_wr_iff addr d).2 (by omega)), rfl⟩

/-- Every cartridge format: a row's condition is what the decoder's earlier choices have left. -/
theorem decodeCart (acc : Access) (hr : region addr = .cart) :
    IssuedAs tag (busRequest addr acc) (decodeCart tag addr acc) := by
  have hc := fun t => cartAt_self t hr
  cases tag
  case dpc => exact decodeDpc acc hr
  all_goals
    cases acc
    all_goals
      simp only [Sys2Proof.decodeCart, decodeUnknown, decodeF8, decodeF6, decodeF4, decodeFA, decodeF0, decodeE0,
        decodeE7, decodeAr, decodeC0, within_iff]
      repeat' refine ite (fun _ => ?_) fun _ => ?_
    -- One goal per row: its condition, from the choices on the way to it.
    all_goals
      refine ⟨?_, rfl⟩
      simp only [Instr.wellFormed, hc, Bool.true_and, Bool.and_eq_true, Bool.not_eq_true', beq_iff_eq, bne_iff_ne,
        decide_eq_true_eq, within_iff, within_eq_false, hotspot_eq_false, StdKind.hot, StdKind.nbanks] <;> omega

/-! ### Every request -/

theorem decodeBus (tag : Tag) (addr : Addr) (acc : Access) :
    IssuedAs tag (busRequest addr acc) (decodeBus tag addr acc) := by
  unfold Sys2Proof.decodeBus
  cases hr : region addr with
  | cart => exact decodeCart acc hr
  | ram => cases acc <;> exact ⟨beq_iff_eq.2 hr, rfl⟩
  | io => exact decodeIo acc hr
  | tia =>
    cases acc with
    | rd => exact of_row (tiaReadRow_issued (a4_lt addr) addr) ((tiaReadAt_iff _ _).2 ⟨hr, rfl⟩)
    | wr d =>
      refine ite (fun hs => ⟨?_, rfl⟩) fun hs => of_row (tiaWriteRow_issued (a6_lt addr) addr d) ?_
      · rw [snooped, Bool.and_eq_true] at hs
        simp only [Instr.wellFormed, hs, hr, beq_self_eq_true, Bool.and_true]
      · simp only [tiaWriteAt, hr, hs, beq_self_eq_true, Bool.and_true, Bool.not_false]

theorem decodeEvent {code : BitVec 8} {op : Operand} {i : Instr} (h : decodeEvent tag code op = some i) :
    IssuedAs tag (.event code op) i := by
  by_cases hc : 0x11 < code.toNat
  · rw [decodeEvent_reserved tag op hc] at h
    cases h
  obtain ⟨k, hk, rfl⟩ : ∃ k, k < 18 ∧ code = BitVec.ofNat 8 k :=
    ⟨code.toNat, by omega, by simp⟩
  match k, hk with
  | 0x02, _ | 0x0F, _ =>
    -- The arms of `MAPPER.TICK` and `MAPPER.INIT` are picked by the tag.
    cases op with
    | none => cases tag <;> cases h <;> exact ⟨rfl, rfl⟩
    | _ => cases h
  | 0x00, _ | 0x01, _ | 0x03, _ | 0x04, _ | 0x05, _ | 0x06, _ | 0x07, _ | 0x08, _ | 0x09, _ | 0x0A, _ | 0x0B, _
  | 0x0C, _ | 0x0D, _ | 0x0E, _ | 0x10, _ | 0x11, _ =>
    cases op <;> cases h
    exact ⟨rfl, rfl⟩
  | n + 18, hn => exact absurd hn (by omega)

end IssuedAs

theorem decode_busRequest (tag : Tag) (addr : Addr) (acc : Access) :
    decode tag (busRequest addr acc) = some (decodeBus tag addr acc) := by
  cases acc <;> rfl

theorem decode_issued {tag : Tag} {r : Request} {i : Instr} (h : decode tag r = some i) : IssuedAs tag r i := by
  cases r with
  | read addr => exact Option.some.inj h ▸ IssuedAs.decodeBus tag addr .rd
  | write addr d => exact Option.some.inj h ▸ IssuedAs.decodeBus tag addr (.wr d)
  | event code op => exact IssuedAs.decodeEvent h

/-- The decoder reads exactly what an agent can issue (R91, R92, R97 to R99, R102). -/
theorem decode_iff (tag : Tag) (r : Request) (i : Instr) :
    decode tag r = some i ↔ i.wellFormed tag = true ∧ encode i = r := by
  constructor
  · intro h
    exact ⟨(decode_issued h).wellFormed, (decode_issued h).encoded⟩
  · rintro ⟨hw, rfl⟩
    exact statement_all i tag hw

/-! ## The tables of R94 and R95 list the rows by their selects -/

theorem tiaWriteTable_eq : Spec.tiaWriteTable = (List.range 64).map fun k => (tiaWriteRow k, k) := rfl

theorem tiaReadTable_eq : Spec.tiaReadTable = (List.range 16).map fun k => (tiaReadRow k, k) := rfl

/-- The write registers from 0x2D on are unassigned (R94, R287). -/
theorem exec_tiaWriteRow_unassigned {j : Nat} (hj : j < 19) (addr : Addr) (d : Byte) (s : State) :
    exec (tiaWriteRow (0x2D + j) addr d) s = writeCycle addr d (wrUnassigned (0x2D + j) addr) s := by
  match j, hj with
  | 0, _ | 1, _ | 2, _ | 3, _ | 4, _ | 5, _ | 6, _ | 7, _ | 8, _ | 9, _ | 10, _ | 11, _ | 12, _ | 13, _ | 14, _
  | 15, _ | 16, _ | 17, _ | 18, _ => rfl
  | n + 19, h => exact absurd h (by omega)

end Sys2Proof.Laws.RoundTrip

namespace Sys2Proof.Proofs

open Sys2Proof Sys2Proof.Machine Sys2Proof.Spec Sys2Proof.Laws.RoundTrip

/-- Settles O1: `decode_iff`, the totality of the bus decoder, and the codes of the events one by one. -/
theorem decodeExactlyWellFormed : Obligations.DecodeExactlyWellFormed := by
  refine ⟨decode_iff, fun tag addr acc => ⟨_, decode_busRequest tag addr acc⟩, ?_, ?_, ?_, ⟨rfl, fun tag => ?_⟩,
    rfl, fun tag => bne_iff_ne⟩
  · simp only [List.forall_mem_cons]
    exact ⟨⟨rfl, fun _ => rfl⟩, ⟨rfl, fun _ => rfl⟩, ⟨rfl, fun _ => rfl⟩, ⟨rfl, fun _ => rfl⟩, ⟨rfl, fun _ => rfl⟩,
      ⟨rfl, fun _ => rfl⟩, ⟨rfl, fun _ => rfl⟩, ⟨rfl, fun _ => rfl⟩, List.forall_mem_nil _⟩
  · intro n events record snap image format mode0 mode1 addr isWrite lines
    simp only [List.forall_mem_cons]
    exact ⟨⟨rfl, fun _ => rfl⟩, ⟨rfl, fun _ => rfl⟩, ⟨rfl, fun _ => rfl⟩, ⟨rfl, fun _ => rfl⟩, ⟨rfl, fun _ => rfl⟩,
      ⟨rfl, fun _ => rfl⟩, ⟨rfl, fun _ => rfl⟩, ⟨rfl, fun _ => rfl⟩, List.forall_mem_nil _⟩
  · simp only [List.forall_mem_cons]
    exact ⟨⟨rfl, fun _ => beq_iff_eq⟩, ⟨rfl, fun _ => beq_iff_eq⟩, ⟨rfl, fun _ => beq_iff_eq⟩,
      ⟨rfl, fun _ => beq_iff_eq⟩, List.forall_mem_nil _⟩
  · show (!(tag == .fe || tag == .dpc || tag == .ar66)) = true ↔ _
    simp only [Bool.not_eq_true', Bool.or_eq_false_iff, beq_eq_false_iff_ne, and_assoc]

/-- Settles O4: `busRequest_exec`, and each table's rows with the bits their condition names. -/
theorem rowsMakeTheBusTransaction : Obligations.RowsMakeTheBusTransaction := by
  refine ⟨fun addr acc s hl => busRequest_exec addr acc hl, ?tiaw, ?tiar, ?iop, ?tmrr, ?tmrw,
    fun tag addr d => ⟨rfl, edgeAt_bits addr⟩⟩
  case tiaw =>
    rw [tiaWriteTable_eq, List.forall_mem_map]
    intro k hk tag addr d
    obtain ⟨he, hw⟩ := tiaWriteRow_issued (List.mem_range.1 hk) addr d
    exact ⟨he, hw tag ▸ tiaWriteAt_bits tag addr k⟩
  case tiar =>
    rw [tiaReadTable_eq, List.forall_mem_map]
    intro k hk tag addr
    obtain ⟨he, hw⟩ := tiaReadRow_issued (List.mem_range.1 hk) addr
    exact ⟨he, hw tag ▸ tiaReadAt_bits addr k⟩
  case iop =>
    simp only [List.forall_mem_cons]
    refine ⟨?_, ?_, ?_, ?_, List.forall_mem_nil _⟩ <;>
      exact fun tag addr d => ⟨rfl, rfl, portAt_bits addr _, portAt_bits addr _⟩
  case tmrr =>
    simp only [List.forall_mem_cons]
    exact ⟨fun tag addr => ⟨rfl, timerReadAt_bits addr false⟩, fun tag addr => ⟨rfl, timerReadAt_bits addr true⟩,
      List.forall_mem_nil _⟩
  case tmrw =>
    simp only [List.forall_mem_cons]
    refine ⟨?_, ?_, ?_, ?_, List.forall_mem_nil _⟩ <;> exact fun tag addr d => ⟨rfl, timerWriteAt_bits addr _⟩

/-- Settles O2: each word's tag, and the row it decodes to under that tag, are computed. -/
theorem decodeSpecWords : Obligations.DecodeSpecWords :=
  ⟨rfl, rfl, rfl, rfl, rfl, rfl, rfl, rfl, rfl, rfl⟩

/-- Settles O16: the write rows are those of the selects from 0x2D on, whose effect is one log entry; the two read rows log
and draw. -/
theorem unassignedTiaRegisters : Obligations.UnassignedTiaRegisters := by
  constructor
  · show ∀ p ∈ (List.range 19).map fun j => (tiaWriteRow (0x2D + j), 0x2D + j), _
    rw [List.forall_mem_map]
    intro j hj addr d s hl
    exact (exec_tiaWriteRow_unassigned (List.mem_range.1 hj) addr d s).trans (writeCycle_live hl)
  · simp only [List.forall_mem_cons]
    exact ⟨fun addr s hl => readCycle_live hl, fun addr s hl => readCycle_live hl, List.forall_mem_nil _⟩

end Sys2Proof.Proofs
end

section
/-! The bus (R121 to R126, R130, R146, R148, R177, R440, R481): what a bus row does after a fatal error, what every bus
transaction leaves unchanged, detection and the write snoop in front of the dispatch, the RAM rows and `3F.BANK`. -/

namespace Sys2Proof.Machine

/-! ## After a fatal error -/

theorem State.ended_of_ne_none {s : State} (h : s.fatal ≠ none) : s.ended = true :=
  eq_true_of_ne_false (mt (State.ended_iff s).1 h)

section
variable {s : State} (h : s.ended = true)
include h

theorem readCycle_ended (addr : Addr) (serve : State → Byte × State) :
    readCycle addr serve s = .refused .afterFatal := if_pos h

theorem writeCycle_ended (addr : Addr) (d : Byte) (serve : State → State) :
    writeCycle addr d serve s = .refused .afterFatal := if_pos h

theorem cartRead_ended {α : Type} (pick : Mapper → Option α) (addr : Addr) (serve : α → State → Byte × State) :
    cartRead pick addr serve s = .refused .afterFatal := if_pos h

theorem cartWrite_ended {α : Type} (pick : Mapper → Option α) (addr : Addr) (d : Byte) (serve : α → State → State) :
    cartWrite pick addr d serve s = .refused .afterFatal := if_pos h

theorem exec_decodeDpc_ended (addr : Addr) (acc : Access) : exec (decodeDpc addr acc) s = .refused .afterFatal := by
  refine exec_ite (fun _ => ?bank0) fun _ => exec_ite (fun _ => ?bank1) fun _ => exec_ite (fun _ => ?reads) fun _ =>
    exec_ite (fun _ => ?writes) fun _ => ?rom
  case reads =>
    cases acc with
    | rd => exact (exec_dpcReadRow (dpcFunction_lt addr) addr s).trans (cartRead_ended h _ _ _)
    | wr d => exact cartWrite_ended h pickDpc addr d _
  case writes =>
    cases acc with
    | rd => exact cartRead_ended h pickDpc addr _
    | wr d => exact (exec_dpcWriteRow (dpcFunction_lt addr) addr d s).trans (cartWrite_ended h _ _ _ _)
  all_goals
    cases acc with
    | rd => exact cartRead_ended h pickDpc addr _
    | wr d => exact cartWrite_ended h pickDpc addr d _

/-- Every cartridge format is a chain of choices between rows, and each row asks first whether the run has ended. -/
theorem exec_decodeCart_ended (tag : Tag) (addr : Addr) (acc : Access) :
    exec (decodeCart tag addr acc) s = .refused .afterFatal := by
  cases tag
  case dpc => exact exec_decodeDpc_ended h addr acc
  all_goals
    cases acc
    all_goals
      dsimp only [decodeCart, decodeUnknown, decodeF8, decodeF6, decodeF4, decodeFA, decodeF0, decodeE0, decodeE7,
        decodeAr, decodeC0]
      repeat' refine exec_ite (fun _ => ?_) fun _ => ?_
    all_goals exact if_pos h

/-- No bus operation is defined after a fatal error (R130, R481). -/
theorem exec_decodeBus_ended (tag : Tag) (addr : Addr) (acc : Access) :
    exec (decodeBus tag addr acc) s = .refused .afterFatal := by
  unfold decodeBus
  cases region addr with
  | cart => exact exec_decodeCart_ended h tag addr acc
  | ram =>
    cases acc with
    | rd => exact readCycle_ended h addr _
    | wr d => exact writeCycle_ended h addr d _
  | io =>
    cases acc with
    | rd => exact (exec_decodeIo_rd addr s).trans (readCycle_ended h addr _)
    | wr d => exact (exec_decodeIo_wr addr d s).trans (writeCycle_ended h addr d _)
  | tia =>
    cases acc with
    | rd => exact (exec_decodeTiaRead addr s).trans (readCycle_ended h addr _)
    | wr d =>
      refine exec_ite (fun _ => ?_) fun _ => ?_
      · exact cartWrite_ended h pick3F addr d _
      · exact (exec_decodeTiaWrite addr d s).trans (writeCycle_ended h addr d _)

end

/-- A bus request that completes is the transaction of a live state (R121, R122, R130). -/
theorem busRequest_completes {addr : Addr} {acc : Access} {s t : State} {i : Instr}
    (hi : operationOf (busRequest addr acc) s = some i) (e : exec i s = .next t) :
    s.fatal = none ∧ t = busTransaction addr acc s := by
  obtain rfl := Option.some.inj ((operationOf_busRequest addr acc s).symm.trans hi)
  by_cases hl : s.fatal = none
  · exact ⟨hl, Host.Outcome.next.inj (e.symm.trans (exec_decodeBus hl))⟩
  · rw [exec_decodeBus_ended (State.ended_of_ne_none hl)] at e
    cases e

/-! ## What every bus transaction leaves unchanged -/

/-- Detection, hook and register keep the frame of a read, and its end sets two of the `last...` fields (R121). -/
theorem busRead_frame (addr : Addr) (s : State) :
    ∃ v u, ServeFrame s u ∧ busRead addr s = Spec.afterRead addr v u :=
  ⟨_, _, (ServeFrame.opened addr .rd s).trans (ServeFrame.serveRead addr _), rfl⟩

/-- Detection, hook and register keep the frame of a write, and its end sets two of the `last...` fields (R122). -/
theorem busWrite_frame (addr : Addr) (d : Byte) (s : State) :
    ∃ u, ServeFrame s u ∧ busWrite addr d s = Spec.afterWrite addr u :=
  ⟨_, (ServeFrame.opened addr (.wr d) s).trans (ServeFrame.serveWrite addr d _), rfl⟩

/-! ## Detection (R146, R148) -/

theorem guard3F_iff (a : Nat) : guard3F a = true ↔ a ≠ 0x3E ∧ a ≠ 0x40 := by
  simp only [guard3F, Bool.and_eq_true, bne_iff_ne]

theorem lowTia_iff (addr : Addr) : lowTia addr = true ↔ a13 addr ≤ 0x3F := decide_eq_true_iff

/-- The table of R148: one case per image length, and for 8192 bytes the hotspots of F8 before the heuristic of 3F. -/
theorem detectRule_eq_some_iff (n a : Nat) (w : Bool) (prevW : Nat) (v : Tag) : detectRule n a w prevW = some v ↔
    (n = 8192 ∧ 0x1FF8 ≤ a ∧ a ≤ 0x1FF9 ∧ v = .f8) ∨
    (n = 8192 ∧ w = true ∧ a = 0x003F ∧ prevW ≠ 0x003E ∧ prevW ≠ 0x0040 ∧ v = .m3f) ∨
    (n = 12288 ∧ 0x1FF8 ≤ a ∧ a ≤ 0x1FFA ∧ v = .fa) ∨
    (n = 16384 ∧ 0x1FF6 ≤ a ∧ a ≤ 0x1FF9 ∧ v = .f6) ∨
    (n = 32768 ∧ 0x1FF4 ≤ a ∧ a ≤ 0x1FFB ∧ v = .f4) ∨
    (n = 65536 ∧ a = 0x1FF0 ∧ v = .f0) := by
  unfold detectRule
  split
  case isTrue h8 => split <;> grind [within_iff, guard3F_iff]
  split
  case isTrue h12 => grind [within_iff]
  split
  case isTrue h16 => grind [within_iff]
  split
  case isTrue h32 => grind [within_iff]
  split <;> grind

theorem Mapper.tag_eq_unknown_iff (M : Mapper) : M.tag = .unknown ↔ M = .unknown := by
  cases M with
  | std m => cases hk : m.kind <;> simp only [Mapper.tag, hk, StdKind.tag, reduceCtorEq]
  | _ => simp only [Mapper.tag, reduceCtorEq]

/-- The mapper after detection (R146). -/
def resolvedMapper (addr : Addr) (w : Bool) (s : State) : Mapper :=
  if s.bus.mapper = .unknown ∧ 4096 < s.image.size then
    match detectRule s.image.size (a13 addr) w (a13 s.bus.lastWriteAddr) with
    | some v => fresh v
    | none => .unknown
  else s.bus.mapper

theorem resolve_eq (addr : Addr) (w : Bool) (s : State) : resolve addr w s = s.setMapper (resolvedMapper addr w s) := by
  have hc : s.bus.mapper.tag ≠ .unknown ∨ s.image.size ≤ 4096 ↔
      ¬ (s.bus.mapper = .unknown ∧ 4096 < s.image.size) := by
    rw [ne_eq, Mapper.tag_eq_unknown_iff, Decidable.not_and_iff_or_not, Nat.not_lt]
  simp only [resolve, resolvedMapper, hc, ite_not]
  split
  next h =>
    cases detectRule s.image.size (a13 addr) w (a13 s.bus.lastWriteAddr) with
    | some v => rfl
    | none => exact (State.setMapper_self h.1).symm
  next => exact (State.setMapper_self rfl).symm

theorem exec_mapperResolve_live {s : State} (addr : Addr) (w : Bool) (hl : s.fatal = none) :
    exec (.mapperResolve addr w) s = .next ((resolve addr w s).answer .none) := whileLive_live hl

/-! ## The write snoop (R123, R177) -/

theorem opened_wr (addr : Addr) (d : Byte) (s : State) :
    opened addr (.wr d) s = snoopWrite addr d (resolve addr (Access.wr d).isWrite s) := rfl

theorem bankOf3F_eq_bankOf (d : Byte) (s : State) : bankOf3F d s = Spec.bankOf s.image.size d := by
  have hb : banks3F s = 0 ↔ s.image.size < 2048 := by unfold banks3F; omega
  simp only [bankOf3F, Spec.bankOf, hb]
  rfl

section
variable {addr : Addr} {d : Byte} {s : State}

theorem snoopWrite_of_ne (h : ∀ b, s.bus.mapper ≠ .m3f b) : snoopWrite addr d s = s := by
  rcases snoopWrite_cases addr d s with e | ⟨b, hb, -⟩ | ⟨b, hb, -⟩
  · exact e
  · exact absurd hb (h b)
  · exact absurd hb (h b)

theorem snoopWrite_high (h : ¬ a13 addr ≤ 0x003F) : snoopWrite addr d s = s := by
  unfold snoopWrite
  split
  · exact if_neg (mt (lowTia_iff addr).1 h)
  · rfl

/-- The watched range under `3F`: the bank, or a log entry where the guard rejects the write. -/
theorem snoopWrite_low {b : Nat} (hm : s.bus.mapper = .m3f b) (h : a13 addr ≤ 0x003F) : snoopWrite addr d s =
    if a13 s.bus.lastWriteAddr ≠ 0x003E ∧ a13 s.bus.lastWriteAddr ≠ 0x0040 then
      Spec.withMapper (.m3f (Spec.bankOf s.image.size d)) s
    else Spec.logged .heuristicAmbiguity (a13 addr) addr s := by
  simp only [snoopWrite, hm, (lowTia_iff addr).2 h, if_true, guard3F_iff, bankOf3F_eq_bankOf]
  rfl

end

/-! ## RAM (R125, R126) -/

theorem region_ram_iff (addr : Addr) :
    region addr = .ram ↔ addr.getLsbD 12 = false ∧ addr.getLsbD 9 = false ∧ addr.getLsbD 7 = true := by
  unfold region
  cases addr.getLsbD 12 <;> cases addr.getLsbD 7 <;> cases addr.getLsbD 9 <;> decide

theorem opened_ram (addr : Addr) (acc : Access) (s : State) : (opened addr acc s).bus.ram = s.bus.ram := by
  rw [(opened_frame addr acc s).bus]

theorem exec_ramRd_live {s : State} (addr : Addr) (hl : s.fatal = none) : exec (.ramRd addr) s =
    .next (Spec.afterRead addr (s.bus.ram.read (addr.toNat % 128)) (opened addr .rd s)) := by
  rw [← opened_ram addr .rd s]
  exact readCycle_live hl

theorem exec_ramWr_live {s : State} (addr : Addr) (d : Byte) (hl : s.fatal = none) : exec (.ramWr addr d) s =
    .next (Spec.afterWrite addr ((opened addr (.wr d) s).setRam (addr.toNat % 128) d)) := writeCycle_live hl

/-! ## `3F.BANK` (R122, R177) -/

/-- The range that `3F` watches lies in the video chip's region. -/
theorem region_of_low {addr : Addr} (h : a13 addr ≤ 0x003F) : region addr = .tia := by
  unfold a13 at h
  rw [region_tia_iff, BitVec.getLsbD, BitVec.getLsbD, Nat.testBit_eq_decide_div_mod_eq,
    Nat.testBit_eq_decide_div_mod_eq, decide_eq_false_iff_not, decide_eq_false_iff_not]
  omega

theorem tiaWrite_bus (addr : Addr) (d : Byte) (s : State) : (tiaWrite addr d s).bus = s.bus := by
  unfold tiaWrite
  split
  case h_1 =>
    unfold wrVsync
    split <;> rfl
  all_goals rfl

/-- The row under its variant: the write of the TIA register, after the hook. -/
theorem exec_m3fBank_eq {addr : Addr} {d : Byte} {s : State} {bank : Nat} (hl : s.fatal = none)
    (hm : (opened addr (.wr d) s).bus.mapper = .m3f bank) :
    exec (.m3fBank addr d) s = .next (closeWrite addr (tiaWrite addr d (opened addr (.wr d) s))) :=
  cartWrite_live (pick := pick3F) (m := bank) hl (by rw [hm]; rfl)

/-- The TIA write leaves the bank to the hook. -/
theorem exec_m3fBank_mapper {addr : Addr} {d : Byte} {s : State} {bank : Nat} (hl : s.fatal = none)
    (hm : (opened addr (.wr d) s).bus.mapper = .m3f bank) :
    ∃ t, exec (.m3fBank addr d) s = .next t ∧ t.bus.mapper = .m3f bank :=
  ⟨_, exec_m3fBank_eq hl hm, (congrArg Bus.mapper (tiaWrite_bus addr d _)).trans hm⟩

/-- Under a variant other than `3F` a write to a TIA register is that register's row (R91, R94). -/
theorem decodeBus_tiaWrite {tag : Tag} {addr : Addr} (d : Byte) (ht : tag ≠ .m3f) (hr : region addr = .tia) :
    decodeBus tag addr (.wr d) = decodeTiaWrite addr d := by
  have hs : snooped tag addr = false := by rw [snooped, beq_eq_false_iff_ne.2 ht, Bool.false_and]
  simp only [decodeBus, hr, hs, Bool.false_eq_true, if_false]

/-- The bank after the hook, with `3F` active before the write. -/
theorem opened_m3f_mapper {addr : Addr} (d : Byte) {s : State} {bank : Nat} (hm : s.bus.mapper = .m3f bank)
    (h : a13 addr ≤ 0x003F) : (opened addr (.wr d) s).bus.mapper = .m3f (
      if a13 s.bus.lastWriteAddr = 0x003E ∨ a13 s.bus.lastWriteAddr = 0x0040 then bank
      else Spec.bankOf s.image.size d) := by
  have hk : s.bus.mapper.tag ≠ .unknown := by rw [hm]; nofun
  rw [opened_wr, resolve_of_known hk, snoopWrite_low hm h]
  simp only [ne_eq, ← not_or, ite_not]
  split
  · exact hm
  · rfl

/-- The write that detects `3F` switches the bank too. -/
theorem opened_detects_m3f {addr : Addr} (d : Byte) {s : State} (hm : s.bus.mapper = .unknown)
    (hn : s.image.size = 8192) (ha : a13 addr = 0x003F) (h3e : a13 s.bus.lastWriteAddr ≠ 0x003E)
    (h40 : a13 s.bus.lastWriteAddr ≠ 0x0040) : (opened addr (.wr d) s).bus.mapper = .m3f (d.toNat % 4) := by
  have hd : detectRule s.image.size (a13 addr) true (a13 s.bus.lastWriteAddr) = some .m3f :=
    (detectRule_eq_some_iff _ _ _ _ _).2 (.inr (.inl ⟨hn, rfl, ha, h3e, h40, rfl⟩))
  have hr : resolvedMapper addr true s = .m3f 0 := by
    rw [resolvedMapper, if_pos ⟨hm, by omega⟩, hd]
    rfl
  have hu : (s.setMapper (.m3f 0)).bus.mapper = .m3f 0 := rfl
  rw [opened_wr, Access.isWrite, resolve_eq, hr, snoopWrite_low hu (Nat.le_of_eq ha), if_pos ⟨h3e, h40⟩, State.setMapper_image, hn]
  rfl

end Sys2Proof.Machine
namespace Sys2Proof.Proofs

open Sys2Proof Sys2Proof.Machine Sys2Proof.Spec Sys2Proof.Laws.RoundTrip

/-- Settles O6: the row of a bus request is refused, and each host operation is computed. -/
theorem afterFatal : Obligations.AfterFatal := by
  intro s hs
  have h := State.ended_of_ne_none hs
  exact ⟨fun addr acc => ⟨_, operationOf_busRequest addr acc s, exec_decodeBus_ended h _ addr acc⟩,
    fun events => if_pos h, ⟨_, rfl, rfl⟩, ⟨_, rfl, rfl⟩, fun n => ⟨_, rfl⟩, fun n => whileLive_ended h⟩

/-- Settles O5: the transaction's frame, and the `last...` fields its end sets. -/
theorem busOperationsKeepTheBeam : Obligations.BusOperationsKeepTheBeam := by
  intro addr acc s i t hi e
  obtain ⟨hl, rfl⟩ := busRequest_completes hi e
  cases acc with
  | rd =>
    obtain ⟨v, u, hu, ht⟩ := busRead_frame addr s
    rw [busTransaction, ht]
    exact ⟨hu.cycles, hu.beam, hu.fb, hu.pfActive, hu.buf, hu.acc, hu.input, hu.image, hu.fatal.trans hl, rfl, rfl,
      hu.lastWrite⟩
  | wr d =>
    obtain ⟨u, hu, ht⟩ := busWrite_frame addr d s
    rw [busTransaction, ht]
    exact ⟨hu.cycles, hu.beam, hu.fb, hu.pfActive, hu.buf, hu.acc, hu.input, hu.image, hu.fatal.trans hl, rfl,
      hu.lastRead, rfl⟩

/-- Settles O7: the table of detection, the mapper that `MAPPER.RESOLVE` installs, and the hook on the resolved state. -/
theorem beforeTheDispatch : Obligations.BeforeTheDispatch := by
  refine ⟨⟨detectRule_eq_some_iff, fun addr w s hl => ?resolve⟩, fun addr acc s hl =>
    ⟨_, exec_mapperResolve_live addr acc.isWrite hl, ?opened⟩⟩
  case resolve =>
    rw [exec_mapperResolve_live addr w hl, resolve_eq]
    rfl
  case opened =>
    have hf := resolve_frame addr acc.isWrite s
    cases acc with
    | rd =>
      rw [← hf.reply]
      rfl
    | wr d =>
      -- The hook reads the previous write's address and the image, which detection keeps.
      have hw : (resolve addr (Access.wr d).isWrite s).bus.lastWriteAddr = s.bus.lastWriteAddr := by rw [hf.bus]
      dsimp only
      rw [opened_wr, ← hf.reply, ← hf.image, ← hw]
      generalize resolve addr (Access.wr d).isWrite s = u
      cases hm : u.bus.mapper with
      | m3f b =>
        simp only [State.answer_bus, hm]
        by_cases ha : a13 addr ≤ 0x003F
        · rw [if_pos ha, snoopWrite_low hm ha]
          rfl
        · rw [if_neg ha, snoopWrite_high ha]
          rfl
      | _ =>
        simp only [State.answer_bus, hm]
        exact snoopWrite_of_ne fun b hb => Mapper.noConfusion (hm.symm.trans hb)

/-- Settles O9: the RAM region's bits, and the laws of a byte array at the index `a[6:0]`. -/
theorem ramRows : Obligations.RamRows := by
  refine ⟨fun tag addr d => ?_, fun addr s hl => exec_ramRd_live addr hl, ?_⟩
  · have h := beq_iff_eq.trans (region_ram_iff addr)
    exact ⟨h, h⟩
  · rintro addr d s o hl rfl
    refine ⟨_, exec_ramWr_live addr d hl, fun k => ?_, ?_⟩
    · rw [opened_ram, Mem.read_write]
    · rintro addr' t ha rfl
      refine ⟨_, exec_ramRd_live addr' ((opened_frame addr (.wr d) s).fatal.trans hl), congrArg Reply.byte ?_⟩
      rw [ha]
      exact Mem.read_write_same _ _ d

/-- Settles O28: the hook sets the bank, and the rest of the row is the TIA register's. -/
theorem m3fBankRow : Obligations.M3fBankRow := by
  refine ⟨fun tag addr d => ?_, fun addr d s bank hl hm => ⟨exec_m3fBank_mapper hl hm, fun ha => ?_⟩,
    fun addr d s bank hl hm ha => exec_m3fBank_mapper hl (opened_m3f_mapper d hm ha),
    fun addr d s hl hm hn ha h3e h40 => exec_m3fBank_mapper hl (opened_detects_m3f d hm hn ha h3e h40)⟩
  · show (tag == .m3f && region addr == .tia && lowTia addr) = true ↔ _
    rw [Bool.and_eq_true, Bool.and_eq_true, beq_iff_eq, beq_iff_eq, lowTia_iff, and_assoc,
      and_iff_right_of_imp region_of_low]
  · refine ⟨_, decode_busRequest .unknown addr (.wr d), ?_⟩
    rw [exec_m3fBank_eq hl hm, decodeBus_tiaWrite (tag := .unknown) d (by decide) (region_of_low ha),
      exec_decodeTiaWrite, writeCycle_live hl]

end Sys2Proof.Proofs
end

section
/-! The cartridge space of the standard family and of the simple variants (R149 to R189): the addresses a row serves,
and the reply of a live row in the terms of the statements. -/

namespace Sys2Proof.Machine

/-! ## The window of a row -/

/-- Cartridge space is the upper half of the 13-bit space (R124). -/
theorem region_cart_iff_a13 (addr : Addr) : region addr = .cart ↔ 0x1000 ≤ a13 addr := by
  rw [region_cart_iff, BitVec.getLsbD, Nat.testBit_eq_decide_div_mod_eq, decide_eq_true_iff]
  unfold a13
  omega

theorem cartAt_iff_a13 (tag t : Tag) (addr : Addr) : cartAt tag t addr = true ↔ tag = t ∧ 0x1000 ≤ a13 addr := by
  rw [cartAt_iff, region_cart_iff_a13]

/-- A row of the format `CART.<t>` with a further condition `w` on the address, which cuts the window `p` out of
cartridge space (R91, R97). -/
theorem cartAt_window {tag t : Tag} {addr : Addr} {w : Bool} {p : Prop} (h : 0x1000 ≤ a13 addr ∧ w = true ↔ p) :
    (cartAt tag t addr && w) = true ↔ tag = t ∧ p := by
  rw [Bool.and_eq_true, cartAt_iff_a13, and_assoc, h]

/-- A row that serves one address of cartridge space. -/
theorem cartAt_single {tag t : Tag} {addr : Addr} {a : Nat} (ha : 0x1000 ≤ a) :
    (cartAt tag t addr && a13 addr == a) = true ↔ tag = t ∧ a13 addr = a :=
  cartAt_window (by rw [beq_iff_eq]; omega)

/-- A row that serves the addresses from `lo` to `hi` of cartridge space. -/
theorem cartAt_within {tag t : Tag} {addr : Addr} {lo hi : Nat} (h : 0x1000 ≤ lo) :
    (cartAt tag t addr && within lo hi (a13 addr)) = true ↔ tag = t ∧ lo ≤ a13 addr ∧ a13 addr ≤ hi :=
  cartAt_window (by rw [within_iff]; omega)

/-- A row that serves cartridge space up to `hi`. -/
theorem cartAt_upTo (tag t : Tag) (addr : Addr) (hi : Nat) :
    (cartAt tag t addr && decide (a13 addr ≤ hi)) = true ↔ tag = t ∧ 0x1000 ≤ a13 addr ∧ a13 addr ≤ hi :=
  cartAt_window (by rw [decide_eq_true_iff])

/-- A row that serves cartridge space from `lo` on. -/
theorem cartAt_from {tag t : Tag} {addr : Addr} {lo : Nat} (h : 0x1000 ≤ lo) :
    (cartAt tag t addr && decide (lo ≤ a13 addr)) = true ↔ tag = t ∧ lo ≤ a13 addr :=
  cartAt_window (by rw [decide_eq_true_iff]; omega)

/-! ## The reply of a live row -/

theorem closeRead_romByte (addr : Addr) (i : Nat) (s : State) :
    closeRead addr (romByte i s) = Spec.romReply addr i s := by
  unfold romByte Spec.romReply Spec.romReplyVia
  split <;> rfl

section
variable {α : Type} {pick : Mapper → Option α} {m : α} {addr : Addr} {s : State}

/-- A live read of the active variant, whose effect is the byte `v` and the state `u`. -/
theorem cartRead_replies {serve : α → State → Byte × State} (hl : s.fatal = none)
    (hp : pick (opened addr .rd s).bus.mapper = some m) {v : Byte} {u : State}
    (he : serve m (opened addr .rd s) = (v, u)) :
    cartRead pick addr serve s = .next (Spec.afterRead addr v u) := by
  rw [cartRead_live hl hp, he]
  rfl

/-- A live read of the active variant, whose effect is a byte of the image. -/
theorem cartRead_replies_rom {serve : α → State → Byte × State} (hl : s.fatal = none)
    (hp : pick (opened addr .rd s).bus.mapper = some m) {i : Nat} {u : State}
    (he : serve m (opened addr .rd s) = romByte i u) :
    cartRead pick addr serve s = .next (Spec.romReply addr i u) := by
  rw [cartRead_live hl hp, he, closeRead_romByte]

/-- A live write under the active variant, whose effect is the state `u`. -/
theorem cartWrite_leaves {d : Byte} {serve : α → State → State} (hl : s.fatal = none)
    (hp : pick (opened addr (.wr d) s).bus.mapper = some m) {u : State}
    (he : serve m (opened addr (.wr d) s) = u) :
    cartWrite pick addr d serve s = .next (Spec.afterWrite addr u) := by
  rw [cartWrite_live hl hp, he]
  rfl

end

/-- Detection and hook leave the image alone (R60). -/
theorem opened_image (addr : Addr) (acc : Access) (s : State) : (opened addr acc s).image = s.image :=
  (opened_frame addr acc s).image

/-! ## The bank-select rows of F8, F6 and F4 (R152) -/

/-- `row` is the row of bank `b` of a kind `k`: it serves one address `hot`, and an access selects `b` first. -/
structure IsStdBankRow (row : Addr → Access → Instr) (k : StdKind) (b hot : Nat) : Prop where
  window : ∀ tag addr acc, (row addr acc).wellFormed tag = (cartAt tag k.tag addr && a13 addr == hot)
  effect : ∀ addr acc s, exec (row addr acc) s =
    cartAccess (pickStd k) addr acc (stdBankRead b addr) (stdBankWrite b) s
  hot_eq : hot = k.hot + b
  bank_lt : b < k.nbanks

namespace IsStdBankRow
variable {row : Addr → Access → Instr} {k : StdKind} {b hot : Nat} (h : IsStdBankRow row k b hot)
include h

theorem wellFormed_iff (tag : Tag) (addr : Addr) (acc : Access) :
    (row addr acc).wellFormed tag = true ↔ tag = k.tag ∧ a13 addr = hot := by
  have hk := k.hot_ge
  have hh := h.hot_eq
  rw [h.window]
  exact cartAt_single (by omega)

theorem exec_rd {addr : Addr} {s : State} {m : Std} (hl : s.fatal = none)
    (hm : (opened addr .rd s).bus.mapper = .std m) (hk : m.kind = k) :
    exec (row addr .rd) s = .next (Spec.romReply addr (b * 4096 + a12 addr)
      (Spec.withMapper (.std { m with bank := b }) (opened addr .rd s))) :=
  (h.effect addr .rd s).trans (cartRead_replies_rom hl (hm ▸ pickStd_of_kind hk) rfl)

theorem exec_wr {addr : Addr} {d : Byte} {s : State} {m : Std} (hl : s.fatal = none)
    (hm : (opened addr (.wr d) s).bus.mapper = .std m) (hk : m.kind = k) :
    exec (row addr (.wr d)) s = .next (Spec.afterWrite addr
      (Spec.withMapper (.std { m with bank := b }) (opened addr (.wr d) s))) :=
  (h.effect addr (.wr d) s).trans (cartWrite_leaves hl (hm ▸ pickStd_of_kind hk) rfl)

end IsStdBankRow

/-! ## The other rows of F8, F6 and F4 (R153 to R156) -/

/-- The four rows of a kind `k` outside its hotspots: the overlay's two ports, the ROM and the write that stores
nothing. -/
structure AreStdWindowRows (k : StdKind) (scw : Addr → Byte → Instr) (scr rom : Addr → Instr)
    (wr : Addr → Byte → Instr) : Prop where
  scw_window : ∀ tag addr d, (scw addr d).wellFormed tag = (cartAt tag k.tag addr && decide (a13 addr ≤ 0x107F))
  scr_window : ∀ tag addr, (scr addr).wellFormed tag = (cartAt tag k.tag addr && within 0x1080 0x10FF (a13 addr))
  rom_window : ∀ tag addr, (rom addr).wellFormed tag =
    (cartAt tag k.tag addr && !k.hotspot (a13 addr) && !within 0x1080 0x10FF (a13 addr))
  wr_window : ∀ tag addr d, (wr addr d).wellFormed tag =
    (cartAt tag k.tag addr && !k.hotspot (a13 addr) && decide (0x1080 ≤ a13 addr))
  scw_effect : ∀ addr d s, exec (scw addr d) s = cartWrite (pickStd k) addr d (stdScWrite addr d) s
  scr_effect : ∀ addr s, exec (scr addr) s = cartRead (pickStd k) addr (stdScRead addr) s
  rom_effect : ∀ addr s, exec (rom addr) s = cartRead (pickStd k) addr (stdRomRead addr) s
  wr_effect : ∀ addr d s, exec (wr addr d) s = cartWrite (pickStd k) addr d keepState s

/-- The overlay's read port: the overlay once active, ROM before (R155). -/
theorem closeRead_stdScRead (addr : Addr) (m : Std) (s : State) : closeRead addr (stdScRead addr m s) =
    if m.superchip then Spec.afterRead addr (m.scRam.read (a7 addr)) s
    else Spec.romReply addr (m.bank * 4096 + a12 addr) s := by
  unfold stdScRead
  split
  · rfl
  · exact closeRead_romByte addr _ s

/-- The ROM: a draw in the active write-only window (R153, R154). -/
theorem closeRead_stdRomRead (addr : Addr) (m : Std) (s : State) : closeRead addr (stdRomRead addr m s) =
    if m.superchip = true ∧ a13 addr ≤ 0x107F then Spec.drawReply addr s
    else Spec.romReply addr (m.bank * 4096 + a12 addr) s := by
  unfold stdRomRead
  simp only [Bool.and_eq_true, decide_eq_true_eq]
  split
  · rfl
  · exact closeRead_romByte addr _ s

namespace AreStdWindowRows
variable {k : StdKind} {scw : Addr → Byte → Instr} {scr rom : Addr → Instr} {wr : Addr → Byte → Instr}
  (h : AreStdWindowRows k scw scr rom wr)
include h

theorem wellFormed_iff (tag : Tag) (addr : Addr) (d : Byte) :
    ((scw addr d).wellFormed tag = true ↔ tag = k.tag ∧ 0x1000 ≤ a13 addr ∧ a13 addr ≤ 0x107F) ∧
    ((scr addr).wellFormed tag = true ↔ tag = k.tag ∧ 0x1080 ≤ a13 addr ∧ a13 addr ≤ 0x10FF) ∧
    ((rom addr).wellFormed tag = true ↔ tag = k.tag ∧ ¬ (k.hot ≤ a13 addr ∧ a13 addr < k.hot + k.nbanks) ∧
      ((0x1000 ≤ a13 addr ∧ a13 addr ≤ 0x107F) ∨ 0x1100 ≤ a13 addr)) ∧
    ((wr addr d).wellFormed tag = true ↔ tag = k.tag ∧ ¬ (k.hot ≤ a13 addr ∧ a13 addr < k.hot + k.nbanks) ∧
      0x1080 ≤ a13 addr) := by
  rw [h.scw_window, h.scr_window, h.rom_window, h.wr_window, Bool.and_assoc, Bool.and_assoc]
  refine ⟨cartAt_upTo _ _ _ _, cartAt_within (by decide), cartAt_window ?_, cartAt_window ?_⟩
  · rw [Bool.and_eq_true, Bool.not_eq_true', Bool.not_eq_true', hotspot_eq_false, within_eq_false]
    omega
  · rw [Bool.and_eq_true, Bool.not_eq_true', hotspot_eq_false, decide_eq_true_iff]
    omega

section
variable {addr : Addr} {d : Byte} {s : State} {m : Std} (hl : s.fatal = none) (hk : m.kind = k)
include hl hk

theorem exec_scr (hm : (opened addr .rd s).bus.mapper = .std m) : exec (scr addr) s = .next (
    if m.superchip then Spec.afterRead addr (m.scRam.read (a7 addr)) (opened addr .rd s)
    else Spec.romReply addr (m.bank * 4096 + a12 addr) (opened addr .rd s)) := by
  rw [h.scr_effect, cartRead_live hl (hm ▸ pickStd_of_kind hk), closeRead_stdScRead]

theorem exec_rom (hm : (opened addr .rd s).bus.mapper = .std m) : exec (rom addr) s = .next (
    if m.superchip = true ∧ a13 addr ≤ 0x107F then Spec.drawReply addr (opened addr .rd s)
    else Spec.romReply addr (m.bank * 4096 + a12 addr) (opened addr .rd s)) := by
  rw [h.rom_effect, cartRead_live hl (hm ▸ pickStd_of_kind hk), closeRead_stdRomRead]

theorem exec_scw (hm : (opened addr (.wr d) s).bus.mapper = .std m) : exec (scw addr d) s = .next (
    Spec.afterWrite addr (Spec.withMapper (.std { m with superchip := true, scRam := m.scRam.write (a7 addr) d })
      (opened addr (.wr d) s))) :=
  (h.scw_effect addr d s).trans (cartWrite_leaves hl (hm ▸ pickStd_of_kind hk) rfl)

theorem exec_wr (hm : (opened addr (.wr d) s).bus.mapper = .std m) :
    exec (wr addr d) s = .next (Spec.afterWrite addr (opened addr (.wr d) s)) :=
  (h.wr_effect addr d s).trans (cartWrite_leaves hl (hm ▸ pickStd_of_kind hk) rfl)

end

end AreStdWindowRows

/-! ## FA (R160 to R163) -/

section
variable {addr : Addr} {s : State} {m : Fa} (hl : s.fatal = none)
include hl

theorem faBank_rd (b : Nat) (hm : (opened addr .rd s).bus.mapper = .fa m) :
    cartAccess pickFa addr .rd (faBankRead b addr) (faBankWrite b) s = .next (Spec.romReply addr (b * 4096 + a12 addr)
      (Spec.withMapper (.fa { m with bank := b }) (opened addr .rd s))) :=
  cartRead_replies_rom hl (congrArg pickFa hm) rfl

theorem faBank_wr {d : Byte} (b : Nat) (hm : (opened addr (.wr d) s).bus.mapper = .fa m) :
    cartAccess pickFa addr (.wr d) (faBankRead b addr) (faBankWrite b) s = .next (Spec.afterWrite addr
      (Spec.withMapper (.fa { m with bank := b }) (opened addr (.wr d) s))) :=
  cartWrite_leaves hl (congrArg pickFa hm) rfl

end

/-! ## F0 (R165, R166) -/

/-- The next bank, from 15 to 0. -/
theorem nextF0_eq (bank : Nat) : nextF0 bank = if bank % 16 = 15 then 0 else bank % 16 + 1 := by
  unfold nextF0
  split <;> omega

/-! ## E0 (R170, R171) -/

/-- The slice of an address, by its bits 11:10. -/
theorem E0.bankAt_eq (addr : Addr) (m : E0) : m.bankAt addr =
    if a12 addr < 0x400 then m.slice0 else if a12 addr < 0x800 then m.slice1
    else if a12 addr < 0xC00 then m.slice2 else 7 := by
  have ha := a12_lt addr
  unfold E0.bankAt
  split
  next h => rw [if_pos (by omega)]
  next h => rw [if_neg (by omega), if_pos (by omega)]
  next h => rw [if_neg (by omega), if_neg (by omega), if_pos (by omega)]
  next h0 h1 h2 =>
    rw [imp_false] at h0 h1 h2
    rw [if_neg (by omega), if_neg (by omega), if_neg (by omega)]

/-- `row` is the control row at `base` of a slice, and `select` sets the slice's bank: an access to one of its eight
addresses selects bank `a[2:0]` first. -/
structure IsE0SelectRow (row : Addr → Access → Instr) (base : Nat) (select : Nat → E0 → E0) : Prop where
  window : ∀ tag addr acc, (row addr acc).wellFormed tag = (cartAt tag .e0 addr && within base (base + 7) (a13 addr))
  effect : ∀ addr acc s, exec (row addr acc) s =
    cartAccess pickE0 addr acc (e0SelectRead (select (a3 addr)) addr) (e0SelectWrite (select (a3 addr))) s
  base_ge : 0x1000 ≤ base

namespace IsE0SelectRow
variable {row : Addr → Access → Instr} {base : Nat} {select : Nat → E0 → E0} (h : IsE0SelectRow row base select)
include h

theorem wellFormed_iff (tag : Tag) (addr : Addr) (acc : Access) :
    (row addr acc).wellFormed tag = true ↔ tag = .e0 ∧ base ≤ a13 addr ∧ a13 addr < base + 8 := by
  have hb := h.base_ge
  rw [h.window]
  exact cartAt_window (by rw [within_iff]; omega)

theorem exec_rd {addr : Addr} {s : State} {m : E0} (hl : s.fatal = none)
    (hm : (opened addr .rd s).bus.mapper = .e0 m) :
    exec (row addr .rd) s = .next (Spec.romReply addr ((select (a3 addr) m).bankAt addr * 1024 + a10 addr)
      (Spec.withMapper (.e0 (select (a3 addr) m)) (opened addr .rd s))) :=
  (h.effect addr .rd s).trans (cartRead_replies_rom hl (congrArg pickE0 hm) rfl)

theorem exec_wr {addr : Addr} {d : Byte} {s : State} {m : E0} (hl : s.fatal = none)
    (hm : (opened addr (.wr d) s).bus.mapper = .e0 m) :
    exec (row addr (.wr d)) s = .next (Spec.afterWrite addr
      (Spec.withMapper (.e0 (select (a3 addr) m)) (opened addr (.wr d) s))) :=
  (h.effect addr (.wr d) s).trans (cartWrite_leaves hl (congrArg pickE0 hm) rfl)

end IsE0SelectRow

end Sys2Proof.Machine

namespace Sys2Proof.Proofs

open Sys2Proof Sys2Proof.Machine Sys2Proof.Spec

/-- Settles O24: each of the fourteen rows is the bank-select row of its kind, bank and address. -/
theorem stdBankRows : Obligations.StdBankRows := by
  intro p hp
  have h : IsStdBankRow p.1 p.2.1 p.2.2.1 p.2.2.2 := by
    simp only [List.mem_cons, List.not_mem_nil, or_false] at hp
    rcases hp with rfl | rfl | rfl | rfl | rfl | rfl | rfl | rfl | rfl | rfl | rfl | rfl | rfl | rfl
    all_goals exact ⟨fun _ _ _ => rfl, fun _ _ _ => rfl, by decide, by decide⟩
  refine ⟨h.wellFormed_iff, h.hot_eq, h.bank_lt, ?_, ?_⟩
  · rintro addr s m o hl rfl hm hk
    exact h.exec_rd hl hm hk
  · rintro addr d s m o hl rfl hm hk
    exact h.exec_wr hl hm hk

/-- Settles O25: each of the three kinds has its four window rows. -/
theorem stdWindowRows : Obligations.StdWindowRows := by
  intro p hp
  have h : AreStdWindowRows p.1 p.2.1 p.2.2.1 p.2.2.2.1 p.2.2.2.2 := by
    simp only [List.mem_cons, List.not_mem_nil, or_false] at hp
    rcases hp with rfl | rfl | rfl
    all_goals exact ⟨fun _ _ _ => rfl, fun _ _ => rfl, fun _ _ => rfl, fun _ _ _ => rfl, fun _ _ _ => rfl,
      fun _ _ => rfl, fun _ _ => rfl, fun _ _ _ => rfl⟩
  refine ⟨h.wellFormed_iff, ?_, ?_⟩
  · rintro addr s m o hl rfl hm hk
    exact ⟨h.exec_scr hl hk hm, h.exec_rom hl hk hm⟩
  · rintro addr d s m o hl rfl hm hk
    exact ⟨h.exec_scw hl hk hm, h.exec_wr hl hk hm⟩

/-- Settles O26: the windows of the two variants, the switch of FA by its bank, the step of F0. -/
theorem faAndF0Rows : Obligations.FaAndF0Rows := by
  refine ⟨fun tag addr acc => ⟨?banks, cartAt_upTo _ _ _ _, cartAt_within (by decide), ?faRom, ?f0Rom⟩,
    ⟨?faRd, ?faWr⟩, fun tag addr acc => cartAt_single (by decide), ?f0Rd, ?f0Wr⟩
  case banks =>
    intro p hp
    simp only [List.mem_cons, List.not_mem_nil, or_false] at hp
    rcases hp with rfl | rfl | rfl
    all_goals exact cartAt_single (by decide)
  case faRom =>
    rw [Instr.wellFormed, Bool.and_assoc]
    refine cartAt_window ?_
    rw [Bool.and_eq_true, decide_eq_true_iff, Bool.not_eq_true', within_eq_false]
    omega
  case f0Rom => exact cartAt_window (by rw [bne_iff_ne])
  case faRd =>
    rintro addr s m o hl rfl hm
    refine ⟨fun p hp => ?_, cartRead_replies hl (congrArg pickFa hm) rfl,
      cartRead_replies hl (congrArg pickFa hm) rfl, cartRead_replies_rom hl (congrArg pickFa hm) rfl⟩
    simp only [List.mem_cons, List.not_mem_nil, or_false] at hp
    rcases hp with rfl | rfl | rfl
    all_goals exact faBank_rd hl _ hm
  case faWr =>
    rintro addr d s m o hl rfl hm
    refine ⟨fun p hp => ?_, cartWrite_leaves hl (congrArg pickFa hm) rfl,
      cartWrite_leaves hl (congrArg pickFa hm) rfl, cartWrite_leaves hl (congrArg pickFa hm) rfl⟩
    simp only [List.mem_cons, List.not_mem_nil, or_false] at hp
    rcases hp with rfl | rfl | rfl
    all_goals exact faBank_wr hl _ hm
  case f0Rd =>
    rintro addr s bank b o hl rfl hm hb
    obtain rfl : b = nextF0 bank := hb.trans (nextF0_eq bank).symm
    exact ⟨cartRead_replies_rom hl (congrArg pickF0 hm) rfl, cartRead_replies_rom hl (congrArg pickF0 hm) rfl⟩
  case f0Wr =>
    rintro addr d s bank b o hl rfl hm hb
    obtain rfl : b = nextF0 bank := hb.trans (nextF0_eq bank).symm
    exact ⟨cartWrite_leaves hl (congrArg pickF0 hm) rfl, cartWrite_leaves hl (congrArg pickF0 hm) rfl⟩

/-- Settles O27: the three control rows select a slice's bank, and every read goes through the bank at its address. -/
theorem e0Rows : Obligations.E0Rows := by
  refine ⟨E0.bankAt_eq, fun p hp => ?select, fun tag addr acc => cartAt_window ?_, ?romRd, ?romWr⟩
  case select =>
    have h : IsE0SelectRow p.1 p.2.1 p.2.2 := by
      simp only [List.mem_cons, List.not_mem_nil, or_false] at hp
      rcases hp with rfl | rfl | rfl
      all_goals exact ⟨fun _ _ _ => rfl, fun _ _ _ => rfl, by decide⟩
    refine ⟨h.wellFormed_iff, ?_, ?_⟩
    · rintro addr s m m' o hl rfl hm rfl
      exact h.exec_rd hl hm
    · rintro addr d s m o hl rfl hm
      exact h.exec_wr hl hm
  · rw [Bool.not_eq_true', within_eq_false]
  case romRd =>
    rintro addr s m o hl rfl hm
    exact cartRead_replies_rom hl (congrArg pickE0 hm) rfl
  case romWr =>
    rintro addr d s m o hl rfl hm
    exact cartWrite_leaves hl (congrArg pickE0 hm) rfl

/-- Settles O23: the window and the effect of each row. -/
theorem plainVariantRows : Obligations.PlainVariantRows := by
  refine ⟨fun tag addr d acc => ⟨cartAt_iff_a13 _ _ _, cartAt_iff_a13 _ _ _, cartAt_iff_a13 _ _ _,
    cartAt_iff_a13 _ _ _, cartAt_upTo _ _ _ _, cartAt_within (by decide), cartAt_from (by decide)⟩,
    ⟨fun addr s hl hm => ?unkRd, fun addr d s hl hm => cartWrite_leaves hl (congrArg pickUnknown hm) rfl⟩,
    ?m3fRd, ?m3fWr, ?feRd, ?feWr, ?c0Rd, ?c0Wr⟩
  case unkRd =>
    rw [← opened_image addr .rd s]
    exact cartRead_replies_rom hl (congrArg pickUnknown hm) rfl
  case m3fRd =>
    rintro addr s bank o hl rfl hm
    rw [← opened_image addr .rd s]
    refine cartRead_replies_rom hl (congrArg pick3F hm) ?_
    unfold m3fRead lastIndex3F
    split <;> rfl
  case m3fWr =>
    rintro addr d s bank o hl rfl hm
    exact cartWrite_leaves hl (congrArg pick3F hm) rfl
  case feRd =>
    rintro addr s bank o hl rfl hm
    exact cartRead_replies_rom hl (congrArg pickFe hm) rfl
  case feWr =>
    rintro addr d s bank o hl rfl hm
    exact cartWrite_leaves hl (congrArg pickFe hm) rfl
  case c0Rd =>
    rintro addr s ram o hl rfl hm
    rw [← opened_image addr .rd s]
    exact ⟨cartRead_replies hl (congrArg pickC0 hm) rfl, cartRead_replies hl (congrArg pickC0 hm) rfl,
      cartRead_replies_rom hl (congrArg pickC0 hm) rfl⟩
  case c0Wr =>
    rintro addr d s ram o hl rfl hm
    exact ⟨cartWrite_leaves hl (congrArg pickC0 hm) rfl, cartWrite_leaves hl (congrArg pickC0 hm) rfl,
      cartWrite_leaves hl (congrArg pickC0 hm) rfl⟩

end Sys2Proof.Proofs
end

section
/-! The events of the cartridge variants (R143 to R145, R184, R236) and power-on (R144, R447, R482, R510). -/

namespace Sys2Proof.Machine

/-! ## The mapper's tick (R143) -/

theorem exec_mapperTick_live {s : State} (hl : s.fatal = none) :
    exec .mapperTick s = .next ((s.setMapper s.bus.tickedMapper).answer .none) := whileLive_live hl

section
variable {α : Type} {pick : Mapper → Option α} {f : α → State → State} {m : α} {s : State}

theorem variantEvent_live (hl : s.fatal = none) (hp : pick s.bus.mapper = some m) :
    variantEvent pick f s = .next ((f m s).answer .none) := by
  simp only [variantEvent, (State.ended_iff s).2 hl, hp, Bool.false_eq_true, if_false]

/-- A common event of the variants is the active variant's own one, if it has that effect. -/
theorem whileLive_eq_variantEvent {g : State → State} (hl : s.fatal = none) (hp : pick s.bus.mapper = some m)
    (hg : g s = f m s) : whileLive g s = variantEvent pick f s := by
  rw [whileLive_live hl, variantEvent_live hl hp, hg]

end

/-- The ten variants without an arm keep their record. -/
theorem tickedMapper_of_no_arm {b : Bus} (hfe : b.mapper.tag ≠ .fe) (hdpc : b.mapper.tag ≠ .dpc)
    (har : b.mapper.tag ≠ .ar66) : b.tickedMapper = b.mapper := by
  unfold Bus.tickedMapper
  split
  next bank h => exact absurd (congrArg Mapper.tag h) hfe
  next m h => exact absurd (congrArg Mapper.tag h) hdpc
  next m h => exact absurd (congrArg Mapper.tag h) har
  next => rfl

theorem exec_mapperTick_fe {s : State} {bank : Nat} (hl : s.fatal = none) (hm : s.bus.mapper = .fe bank) :
    exec .mapperTick s = exec .feTick s :=
  whileLive_eq_variantEvent hl (congrArg pickFe hm) (by simp only [mapperTick, Bus.tickedMapper, hm])

theorem exec_mapperTick_dpc {s : State} {m : Dpc} (hl : s.fatal = none) (hm : s.bus.mapper = .dpc m) :
    exec .mapperTick s = exec .dpcTick s :=
  whileLive_eq_variantEvent hl (congrArg pickDpc hm) (by simp only [mapperTick, Bus.tickedMapper, hm])

theorem exec_mapperTick_ar {s : State} {m : Ar} (hl : s.fatal = none) (hm : s.bus.mapper = .ar66 m) :
    exec .mapperTick s = exec .arTick s :=
  whileLive_eq_variantEvent hl (congrArg pickAr hm) (by simp only [mapperTick, Bus.tickedMapper, hm])

theorem exec_feTick_live {s : State} {bank : Nat} (hl : s.fatal = none) (hm : s.bus.mapper = .fe bank) :
    exec .feTick s = .next ((s.setMapper (.fe (feNext s.bus.lastReadAddr bank))).answer .none) :=
  variantEvent_live hl (congrArg pickFe hm)

/-! ## Initialisation of "66" (R236) -/

/-- Beyond the first `n` bytes nothing is kept. -/
theorem Mem.read_take_beyond (m : Mem) {n i : Nat} (h : n ≤ i) : (m.take n).read i = 0 := by
  induction m with
  | nil => rfl
  | cons c rest ih =>
    obtain ⟨k, b⟩ := c
    unfold Mem.take
    split
    next hk => rwa [Mem.read, if_neg (by omega)]
    next hk => exact ih

/-- Filling `count` bytes from `k` on leaves the others. -/
theorem read_fillDrawn_outside {i : Nat} : ∀ (count k : Nat) (r : Mem × State), i < k ∨ k + count ≤ i →
    (fillDrawn count k r).1.read i = r.1.read i
  | 0, _, _, _ => rfl
  | count + 1, k, r, h => by
    rw [fillDrawn, read_fillDrawn_outside count (k + 1) _ (by omega), Mem.read_write_other _ _ (by omega)]

/-- `t` is `s` with another count of draws. -/
def AfterDraws (s t : State) : Prop := ∃ n, t = { s with draws := n }

namespace AfterDraws

theorem refl (s : State) : AfterDraws s s := ⟨s.draws, rfl⟩

theorem drew {s t : State} (h : AfterDraws s t) : AfterDraws s t.drew := by
  obtain ⟨n, rfl⟩ := h
  exact ⟨n + 1, rfl⟩

theorem romByte {s t : State} (i : Nat) (h : AfterDraws s t) : AfterDraws s (romByte i t).2 := by
  rcases romByte_state i t with e | e
  · rwa [e]
  · rw [e]
    exact h.drew

theorem image {s t : State} (h : AfterDraws s t) : t.image = s.image := by
  obtain ⟨n, rfl⟩ := h
  rfl

/-- A byte inside the image, read after some draws. -/
theorem romByte_inside {s t : State} {i : Nat} (h : AfterDraws s t) (hi : i < s.image.size) :
    (Machine.romByte i t).1 = s.image.bytes.read i := by
  rw [Machine.romByte_inside (h.image ▸ hi), h.image]

end AfterDraws

theorem arImageRam_draws (s : State) : AfterDraws s (arImageRam s).2 :=
  fillDrawn_keeps (AfterDraws s) (fun _ => AfterDraws.drew) _ _ _ (AfterDraws.refl s)

/-- The RAM holds the image's first 6 KB, as far as the image goes. -/
theorem read_arImageRam_inside {s : State} {k : Nat} (hk : k < 6144) (hi : k < s.image.size) :
    (arImageRam s).1.read k = s.image.bytes.read k :=
  (read_fillDrawn_outside _ _ _ (.inl hi)).trans (Mem.read_take hk)

theorem read_arImageRam_beyond (s : State) {k : Nat} (hk : 6144 ≤ k) : (arImageRam s).1.read k = 0 := by
  have hs : k < s.image.size ∨ s.image.size + (Config.arRamSize - s.image.size) ≤ k := by
    unfold Config.arRamSize
    omega
  exact (read_fillDrawn_outside _ _ _ hs).trans (Mem.read_take_beyond _ hk)

/-- The record of "66" after its initialisation: the parts that the image gives, and zero for the rest. -/
theorem arInitialize_record (s : State) : ∃ ram ctrl entry n,
    arInitialize s = { s.setMapper (.ar66 ⟨ram, ctrl, 0, false, 0, 0, entry⟩) with draws := n } ∧
    (∀ k, k < 6144 → k < s.image.size → ram.read k = s.image.bytes.read k) ∧ (∀ k, 6144 ≤ k → ram.read k = 0) ∧
    (0x2002 < s.image.size → ctrl = s.image.bytes.read 0x2002 ∧
      entry = s.image.bytes.read 0x2001 ++ s.image.bytes.read 0x2000) := by
  have hram := arImageRam_draws s
  have hlo := hram.romByte Config.arEntryOffset
  have hhi := hlo.romByte (Config.arEntryOffset + 1)
  obtain ⟨n, hn⟩ := hhi.romByte (Config.arEntryOffset + 2)
  exact ⟨_, _, _, n, congrArg (State.setMapper _) hn, fun k => read_arImageRam_inside,
    fun k => read_arImageRam_beyond s, fun h => ⟨hhi.romByte_inside h,
      congr (congrArg HAppend.hAppend (hlo.romByte_inside (i := 0x2001) (by omega)))
        (hram.romByte_inside (i := 0x2000) (by omega))⟩⟩

theorem exec_ar66Initialize_live {s : State} {m : Ar} (hl : s.fatal = none) (hm : s.bus.mapper = .ar66 m) :
    exec .ar66Initialize s = .next ((arInitialize s).answer .none) :=
  variantEvent_live hl (congrArg pickAr hm)

/-! ## `MAPPER.INIT` (R145) -/

/-- `MAPPER.INIT` is the initialisation of "66" where that variant is active. -/
theorem exec_mapperInit_ar {s : State} {m : Ar} (hl : s.fatal = none) (hm : s.bus.mapper = .ar66 m) :
    exec .mapperInit s = exec .ar66Initialize s :=
  whileLive_eq_variantEvent hl (congrArg pickAr hm) (by simp only [mapperInit, hm])

theorem exec_mapperInit_live {s : State} (hl : s.fatal = none) :
    exec .mapperInit s = .next ((mapperInit s).answer .none) := whileLive_live hl

/-- Every variant but "66" has an empty initialisation (R145). -/
theorem mapperInit_of_ne {s : State} (h : s.bus.mapper.tag ≠ .ar66) : mapperInit s = s := by
  unfold mapperInit
  split
  next m hm => exact absurd (congrArg Mapper.tag hm) h
  next => rfl

/-- Answering what was answered before changes nothing. -/
theorem State.answer_self {r : Reply} {s : State} (h : s.reply = r) : s.answer r = s := by
  subst h
  rfl

theorem mapperInit_reply (s : State) : (mapperInit s).reply = s.reply := by
  unfold mapperInit
  split
  · obtain ⟨ram, ctrl, entry, n, e, -⟩ := arInitialize_record s
    rw [e]
    rfl
  · rfl

/-- On a state that has answered nothing, the whole effect is the initialisation. -/
theorem exec_mapperInit_unanswered {s : State} (hl : s.fatal = none) (hr : s.reply = .none) :
    exec .mapperInit s = .next (mapperInit s) := by
  rw [exec_mapperInit_live hl, State.answer_self ((mapperInit_reply s).trans hr)]

/-! ## Power-on (R144, R510) -/

theorem fitsLength_iff (v : Tag) (n : Nat) : fitsLength v n = true ↔ Spec.fits v n := by
  cases v with
  | unknown | dpc => exact decide_eq_true_iff
  | c0 => simp only [fitsLength, Spec.fits, Bool.or_eq_true, beq_iff_eq]
  | _ => exact beq_iff_eq

/-- The lengths that stay `Unknown` in one list (R144). -/
theorem tagBySize_eq (n : Nat) : tagBySize n =
    if n = 8448 then some .ar66
    else if n ≤ 4096 ∨ n = 8192 ∨ n = 12288 ∨ n = 16384 ∨ n = 32768 ∨ n = 65536 then some .unknown
    else none := by
  unfold tagBySize
  by_cases h : n ≤ 4096
  · simp only [h, if_true, true_or]
  · simp only [h, if_false, false_or]

section
variable {image : Image} {format : TvFormat} {mode0 mode1 : ControllerMode} {s : State}

/-- With no variant the fatal error ends power-on (R147, R482). -/
theorem finishPowerOn_unrecognized (h : detectedTag image = none) :
    finishPowerOn (detect (freshState image format mode0 mode1 s)) =
      (freshState image format mode0 mode1 s).raiseFatal .unrecognizedCartSize image.size := by
  simp only [detect, freshState, h]
  rfl

/-- With a variant its fresh record is initialised, and the core is started (R145, R447). -/
theorem finishPowerOn_detected {v : Tag} (h : detectedTag image = some v) :
    finishPowerOn (detect (freshState image format mode0 mode1 s)) =
      startCore (mapperInit ((freshState image format mode0 mode1 s).setMapper (fresh v))) := by
  simp only [detect, freshState, h]
  rfl

end

end Sys2Proof.Machine

namespace Sys2Proof.Proofs

open Sys2Proof Sys2Proof.Machine Sys2Proof.Spec

/-- Settles O29: the arms of the mapper's tick, and the bank that FE takes from the last read address. -/
theorem mapperTicks : Obligations.MapperTicks := by
  refine ⟨fun s hl hfe hdpc har => ?_, fun s bank hl hm => ⟨exec_feTick_live hl hm, exec_mapperTick_fe hl hm⟩,
    fun s m => exec_mapperTick_dpc, fun s m => exec_mapperTick_ar⟩
  rw [exec_mapperTick_live hl, tickedMapper_of_no_arm hfe hdpc har]
  rfl

/-- Settles O38: the record after the initialisation, which is `MAPPER.INIT` for "66" alone. -/
theorem arInitialize : Obligations.ArInitialize := by
  refine ⟨fun s m hl hm => ?_, fun s hl ht => ?_⟩
  · obtain ⟨ram, ctrl, entry, n, e, h⟩ := arInitialize_record s
    refine ⟨ram, ctrl, entry, n, ?_, exec_mapperInit_ar hl hm, h⟩
    rw [exec_ar66Initialize_live hl hm, e]
    rfl
  · rw [exec_mapperInit_live hl, mapperInit_of_ne ht]
    rfl

/-- Settles O56: the lengths that fit, and the two outcomes of detection. -/
theorem powerOn : Obligations.PowerOn := by
  refine ⟨fitsLength_iff, ?_⟩
  rintro image format mode0 mode1 s u n rfl rfl
  refine ⟨_, rfl, ?_⟩
  rw [← tagBySize_eq]
  split
  next h => exact finishPowerOn_unrecognized h
  next v h => exact ⟨_, exec_mapperInit_unanswered rfl rfl, finishPowerOn_detected h⟩

end Sys2Proof.Proofs
end

section
/-! The cartridge variants E7, DPC and "66" (R190 to R232): their rows, DPC's random generator and oscillator, and the
write pulse of "66". -/

namespace Sys2Proof.Machine

/-! ## The control rows of E7 and DPC (R193, R205) -/

/-- `row` serves the one address `hot` of the variant `t`, whose record lies in the mapper by `wrap`: an access changes
the record by `f` first, and a read then returns the image byte that the changed record gives. -/
structure IsSelectRow {α : Type} (pick : Mapper → Option α) (wrap : α → Mapper) (index : Addr → α → Nat) (t : Tag)
    (row : Addr → Access → Instr) (hot : Nat) (f : α → α) : Prop where
  window : ∀ tag addr acc, (row addr acc).wellFormed tag = (cartAt tag t addr && a13 addr == hot)
  effect : ∀ addr acc s, exec (row addr acc) s =
    cartAccess pick addr acc (fun m o => romByte (index addr (f m)) (o.setMapper (wrap (f m))))
      (fun m _ o => o.setMapper (wrap (f m))) s
  pick_wrap : ∀ m, pick (wrap m) = some m
  hot_ge : 0x1000 ≤ hot

namespace IsSelectRow
variable {α : Type} {pick : Mapper → Option α} {wrap : α → Mapper} {index : Addr → α → Nat} {t : Tag}
  {row : Addr → Access → Instr} {hot : Nat} {f : α → α} (h : IsSelectRow pick wrap index t row hot f)
include h

theorem wellFormed_iff (tag : Tag) (addr : Addr) (acc : Access) :
    (row addr acc).wellFormed tag = true ↔ tag = t ∧ a13 addr = hot := by
  rw [h.window]
  exact cartAt_single h.hot_ge

theorem exec_rd {addr : Addr} {s : State} {m : α} (hl : s.fatal = none)
    (hm : (opened addr .rd s).bus.mapper = wrap m) :
    exec (row addr .rd) s = .next (Spec.romReply addr (index addr (f m))
      (Spec.withMapper (wrap (f m)) (opened addr .rd s))) := by
  rw [h.effect, cartAccess_rd]
  exact cartRead_replies_rom hl (hm ▸ h.pick_wrap m) rfl

theorem exec_wr {addr : Addr} {d : Byte} {s : State} {m : α} (hl : s.fatal = none)
    (hm : (opened addr (.wr d) s).bus.mapper = wrap m) :
    exec (row addr (.wr d)) s = .next (Spec.afterWrite addr
      (Spec.withMapper (wrap (f m)) (opened addr (.wr d) s))) := by
  rw [h.effect, cartAccess_wr]
  exact cartWrite_leaves hl (hm ▸ h.pick_wrap m) rfl

end IsSelectRow

/-- A control row of E7, whose reads return the fixed ROM (R193, R197). -/
abbrev IsE7SelectRow : (Addr → Access → Instr) → Nat → (E7 → E7) → Prop :=
  IsSelectRow pickE7 .e7 (fun addr _ => 7 * 2048 + a11 addr) .e7

/-- A control row of DPC, whose reads return the ROM of the bank (R205, R206). -/
abbrev IsDpcBankRow : (Addr → Access → Instr) → Nat → (Dpc → Dpc) → Prop :=
  IsSelectRow pickDpc .dpc (fun addr m => m.bank * 4096 + a12 addr) .dpc

/-! ## The lower window of E7 (R194, R195) -/

theorem closeRead_e7LowLoad (addr : Addr) (m : E7) (s : State) : closeRead addr (e7LowLoad addr m s) =
    if m.bank ≤ 6 then Spec.romReply addr (m.bank * 2048 + a11 addr) s
    else if a13 addr ≤ 0x13FF then Spec.drawReply addr s
    else Spec.afterRead addr (m.ram1k.read (a10 addr)) s := by
  unfold e7LowLoad
  split
  · exact closeRead_romByte addr _ s
  · split <;> rfl

/-! ## Program ROM of DPC (R206) -/

theorem closeRead_dpcRomRead (addr : Addr) (m : Dpc) (s : State) : closeRead addr (dpcRomRead addr m s) =
    if a13 addr ≤ 0x107F then Spec.drawReply addr s else Spec.romReply addr (m.bank * 4096 + a12 addr) s := by
  unfold dpcRomRead
  split
  · rfl
  · exact closeRead_romByte addr _ s

/-! ## The random generator of DPC (R208) -/

theorem times_add {α : Type} (f : α → α) (m n : Nat) (a : α) :
    Spec.times f (m + n) a = Spec.times f n (Spec.times f m a) := by
  induction m generalizing a with
  | zero => rw [Nat.zero_add, Spec.times]
  | succ m ih => rw [Nat.succ_add, Spec.times, ih, Spec.times]

/-- Whole periods make no difference. -/
theorem times_of_period {α : Type} {f : α → α} {p : Nat} {a : α} (h : Spec.times f p a = a) (k n : Nat) :
    Spec.times f (p * k + n) a = Spec.times f n a := by
  induction k with
  | zero => rw [Nat.mul_zero, Nat.zero_add]
  | succ k ih => rw [Nat.mul_succ, Nat.add_comm (p * k), Nat.add_assoc, times_add, h, ih]

/-- A value that is its own successor stays. -/
theorem times_of_fixed {α : Type} {f : α → α} {a : α} (h : f a = a) (n : Nat) : Spec.times f n a = a := by
  induction n with
  | zero => rfl
  | succ n ih => rw [Spec.times, h, ih]

theorem rngNext_feedback (r : Byte) :
    (rngNext r).getLsbD 0 = !(r.getLsbD 7 ^^ r.getLsbD 5 ^^ r.getLsbD 4 ^^ r.getLsbD 3) := by
  rw [rngNext, BitVec.getLsbD_concat, if_pos rfl, Bool.true_xor]

theorem rngNext_shift (r : Byte) {k : Nat} (hk : k < 7) : (rngNext r).getLsbD (k + 1) = r.getLsbD k := by
  rw [rngNext, BitVec.getLsbD_concat, if_neg k.succ_ne_zero, Nat.add_sub_cancel, BitVec.getLsbD_extractLsb',
    decide_eq_true hk, Nat.zero_add, Bool.true_and]

theorem rngNext_stuck : rngNext 0xFF = 0xFF := by decide

/-- The generator's value after `17 * q` steps from 1 (`times_rngNext_17_mul`). -/
def rngSample (q : Nat) : Byte :=
  [0x01, 0xE5, 0x8E, 0xF3, 0x1B, 0x94, 0x82, 0x17, 0x70, 0xE9, 0x6A, 0x98, 0x66, 0x7C, 0x0D, 0x01].getD q 0

theorem rngSample_succ : ∀ q < 15, rngSample (q + 1) = Spec.times rngNext 17 (rngSample q) := by decide

theorem times_rngNext_17_mul {q : Nat} (hq : q ≤ 15) : Spec.times rngNext (17 * q) 1 = rngSample q := by
  induction q with
  | zero => rfl
  | succ q ih => rw [Nat.mul_succ, times_add, ih (by omega), rngSample_succ q hq]

theorem rngNext_period : Spec.times rngNext 255 1 = 1 := times_rngNext_17_mul (Nat.le_refl 15)

/-- From no sample do fewer than 17 steps lead to 1, but for the first one itself. -/
theorem rngSample_ne_one : ∀ q < 15, ∀ r < 17, Spec.times rngNext r (rngSample q) = 1 → q = 0 ∧ r = 0 := by decide

theorem times_rngNext_ne_one {n : Nat} (h0 : 0 < n) (h : n < 255) : Spec.times rngNext n 1 ≠ 1 := by
  intro h1
  rw [← Nat.div_add_mod n 17, times_add, times_rngNext_17_mul (by omega)] at h1
  have hqr := rngSample_ne_one (n / 17) (by omega) (n % 17) (by omega) h1
  omega

theorem times_rngNext_eq_one_iff (n : Nat) : Spec.times rngNext n 1 = 1 ↔ n % 255 = 0 := by
  rw [← Nat.div_add_mod n 255, times_of_period rngNext_period, Nat.mul_add_mod, Nat.mod_mod]
  constructor
  · intro h
    by_cases h0 : 0 < n % 255
    · exact absurd h (times_rngNext_ne_one h0 (Nat.mod_lt n (by decide)))
    · omega
  · intro h
    rw [h]
    rfl

/-- The generator comes back to 1 and never leaves 0xFF, so it does not reach 0xFF. -/
theorem times_rngNext_ne_stuck (n : Nat) : Spec.times rngNext n 1 ≠ 0xFF := by
  intro h
  have h1 : Spec.times rngNext (n + 254 * n) 1 = 1 := (times_rngNext_eq_one_iff _).2 (by omega)
  rw [times_add, h, times_of_fixed rngNext_stuck] at h1
  exact absurd h1 (by decide)

/-! ## The read registers of DPC (R210 to R212) -/

theorem dpcReadAt_window {addr : Addr} {f : Nat} (hf : f < 8) : 0x1000 ≤ a13 addr ∧ dpcReadAt addr f = true ↔
    0x1000 + 8 * f ≤ a13 addr ∧ a13 addr ≤ 0x1007 + 8 * f := by
  rw [dpcReadAt, Bool.and_eq_true, decide_eq_true_iff, beq_iff_eq, dpcFunction, a13]
  omega

/-- The rows of function 0 share its window by the pointer index. -/
theorem dpcReadAt_zero_window {addr : Addr} {w : Bool} {p : Prop} (hp : w = true ↔ p) :
    0x1000 ≤ a13 addr ∧ (dpcReadAt addr 0 && w) = true ↔ (0x1000 ≤ a13 addr ∧ a13 addr ≤ 0x1007) ∧ p := by
  rw [Bool.and_eq_true, ← and_assoc, dpcReadAt_window (by decide), hp]

/-! The permutations of functions 3 to 6, compared bit by bit. -/

theorem swapNibbles_eq_rotateLeft (g : Byte) : swapNibbles g = g.rotateLeft 4 := by
  refine BitVec.eq_of_getLsbD_eq fun k hk => ?_
  have h := BitVec.getLsbD_append (x := lo4 g) (y := hi4 g) (i := k)
  rw [BitVec.getLsbD_rotateLeft]
  refine h.trans ?_
  simp only [lo4, hi4, BitVec.getLsbD_extractLsb']
  grind

theorem reverseBits_eq_reverse (g : Byte) : reverseBits g = g.reverse := by
  refine BitVec.eq_of_getLsbD_eq fun k hk => ?_
  rw [reverseBits_getLsbD _ _ hk, BitVec.getLsbD_reverse, BitVec.getMsbD, decide_eq_true hk, Bool.true_and]

theorem rotateRight_eq_rotateRight (g : Byte) : rotateRight g = g.rotateRight 1 := by
  refine BitVec.eq_of_getLsbD_eq fun k hk => ?_
  rw [rotateRight, BitVec.getLsbD_cons, BitVec.getLsbD_rotateRight]
  simp only [BitVec.getLsbD_extractLsb']
  grind

theorem rotateLeft_eq_rotateLeft (g : Byte) : rotateLeft g = g.rotateLeft 1 := by
  refine BitVec.eq_of_getLsbD_eq fun k hk => ?_
  rw [rotateLeft, BitVec.getLsbD_concat, BitVec.getLsbD_rotateLeft]
  simp only [BitVec.getLsbD_extractLsb']
  grind

/-- The display window changes the flag only. -/
theorem Pointer.window_eq (p : Pointer) : p.window = { p with flag :=
    if p.low = p.top then 0xFF else if p.low = p.bottom then 0x00 else p.flag } := by
  unfold Pointer.window
  split
  · rfl
  · split <;> rfl

theorem Pointer.music_iff (i : Nat) (p : Pointer) : p.music i = true ↔ 5 ≤ i ∧ p.musicMode = true := by
  rw [Pointer.music, Bool.and_eq_true, decide_eq_true_iff]

theorem Pointer.counted_eq (i : Nat) (p : Pointer) : p.counted i =
    if 5 ≤ i ∧ p.musicMode = true then p else { p with counter := p.counter - 1 } := by
  simp only [Pointer.counted, Pointer.music_iff]

theorem Dpc.latched_get {i : Nat} (m : Dpc) (hi : i < 8) : (m.latched i).ptr.get i = (m.ptr.get i).window :=
  Pointers.get_set _ _ hi

theorem Dpc.latched_get_eq {i j : Nat} (m : Dpc) (hi : i < 8) (hj : j < 8) :
    (m.latched i).ptr.get j = if j = i then (m.ptr.get i).window else m.ptr.get j := by
  split
  next h => rw [h, m.latched_get hi]
  next h => exact Pointers.get_set_ne _ hi hj h

/-- A read whose result is a function `f` of an image byte, and which installs `M`. -/
theorem closeRead_setMapper_romByte (f : Byte → Byte) (M : Mapper) (addr : Addr) (k : Nat) (s : State) :
    closeRead addr (f (romByte k s).1, (romByte k s).2.setMapper M) =
      Spec.romReplyVia f addr k (Spec.withMapper M s) := by
  have hi : (Spec.withMapper M s).image = s.image := rfl
  rw [Spec.romReplyVia, hi, romByte]
  split <;> rfl

section
variable {addr : Addr} {s : State} {m : Dpc} (hl : s.fatal = none)
  (hm : (opened addr .rd s).bus.mapper = .dpc m)
include hl hm

/-- A read register whose result is `v` and takes nothing from the state. -/
theorem dpcRegRead_replies {result : Nat → Dpc → State → Byte × State} {v : Byte}
    (hr : ∀ o, result (a3 addr) (m.latched (a3 addr)) o = (v, o)) :
    cartRead pickDpc addr (dpcRegRead result addr) s = .next (Spec.afterRead addr v
      (Spec.withMapper (.dpc (m.afterRead (a3 addr))) (opened addr .rd s))) :=
  cartRead_replies hl (congrArg pickDpc hm) (by rw [dpcRegRead, hr]; rfl)

/-- A read register whose result is `f` of the pointer's data byte. -/
theorem dpcRegRead_replies_rom {result : Nat → Dpc → State → Byte × State} {f : Byte → Byte}
    (hr : ∀ o, result (a3 addr) (m.latched (a3 addr)) o =
      (f (dpcByte (a3 addr) (m.latched (a3 addr)) o).1, (dpcByte (a3 addr) (m.latched (a3 addr)) o).2)) :
    cartRead pickDpc addr (dpcRegRead result addr) s = .next (Spec.romReplyVia f addr
      (8192 + (2047 - (m.ptr.get (a3 addr)).window.counter.toNat % 2048))
      (Spec.withMapper (.dpc (m.afterRead (a3 addr))) (opened addr .rd s))) := by
  rw [cartRead_live hl (congrArg pickDpc hm), dpcRegRead, hr, dpcByte, m.latched_get (a3_lt addr)]
  exact congrArg _ (closeRead_setMapper_romByte f _ addr _ _)

/-- A gated read register, with `f` the permutation of the gated byte. -/
theorem dpcRegRead_gated {f g : Byte → Byte} (hf : ∀ b, f b = g b) :
    cartRead pickDpc addr (dpcRegRead (dpcGated f) addr) s = .next (Spec.romReplyVia
      (fun b => g (b &&& (m.ptr.get (a3 addr)).window.flag)) addr
      (8192 + (2047 - (m.ptr.get (a3 addr)).window.counter.toNat % 2048))
      (Spec.withMapper (.dpc (m.afterRead (a3 addr))) (opened addr .rd s))) :=
  dpcRegRead_replies_rom hl hm fun o => by rw [dpcGated, m.latched_get (a3_lt addr), hf]

end

/-! ## The write registers of DPC (R213 to R218) -/

theorem dpcWriteAt_window {addr : Addr} {f : Nat} (hf : f < 8) : 0x1000 ≤ a13 addr ∧ dpcWriteAt addr f = true ↔
    0x1040 + 8 * f ≤ a13 addr ∧ a13 addr ≤ 0x1047 + 8 * f := by
  rw [dpcWriteAt, Bool.and_eq_true, within_iff, beq_iff_eq, dpcFunction, a13]
  omega

theorem dpcNotImpl_window (addr : Addr) :
    0x1000 ≤ a13 addr ∧ (dpcWriteAt addr 4 || dpcWriteAt addr 5 || dpcWriteAt addr 7) = true ↔
      (0x1060 ≤ a13 addr ∧ a13 addr ≤ 0x106F) ∨ (0x1078 ≤ a13 addr ∧ a13 addr ≤ 0x107F) := by
  rw [Bool.or_eq_true, Bool.or_eq_true, and_or_left, and_or_left, dpcWriteAt_window (by decide),
    dpcWriteAt_window (by decide), dpcWriteAt_window (by decide)]
  omega

theorem Pointer.writeLow_eq (d : Byte) (i : Nat) (p : Pointer) : p.writeLow d i = { p with
    counter := p.counter.extractLsb' 8 8 ++ (if 5 ≤ i ∧ p.musicMode = true then p.top else d) } := by
  simp only [Pointer.writeLow, Pointer.music_iff]
  rfl

/-! ## The oscillator of DPC (R209) -/

theorem exec_dpcTick_live {s : State} {m : Dpc} (hl : s.fatal = none) (hm : s.bus.mapper = .dpc m) :
    exec .dpcTick s = .next ((s.setMapper (.dpc m.tick)).answer .none) :=
  variantEvent_live hl (congrArg pickDpc hm)

theorem Dpc.tick_counts {m : Dpc} (h : m.oscTicks ≠ 59) : m.tick = { m with oscTicks := m.oscTicks + 1 } :=
  if_neg (mt Nat.succ.inj h)

/-- The sixtieth tick oscillates the pointers 5 to 7. -/
theorem Dpc.tick_oscillates {m : Dpc} (h : m.oscTicks = 59) : m.tick = { m with
    oscTicks := 0
    ptr := { m.ptr with q5 := m.ptr.q5.oscillate, q6 := m.ptr.q6.oscillate, q7 := m.ptr.q7.oscillate } } :=
  if_pos (congrArg Nat.succ h)

theorem Dpc.tick_get_low {m : Dpc} {i : Nat} (hi : i < 5) : m.tick.ptr.get i = m.ptr.get i := by
  by_cases h : m.oscTicks = 59
  · rw [Dpc.tick_oscillates h]
    match i, hi with
    | 0, _ | 1, _ | 2, _ | 3, _ | 4, _ => rfl
  · rw [Dpc.tick_counts h]

theorem Dpc.tick_get_high {m : Dpc} {i : Nat} (h : m.oscTicks = 59) (h5 : 5 ≤ i) (h8 : i < 8) :
    m.tick.ptr.get i = (m.ptr.get i).oscillate := by
  rw [Dpc.tick_oscillates h]
  match i, h5, h8 with
  | 5, _, _ | 6, _, _ | 7, _, _ => rfl

theorem Pointer.oscillate_silent {p : Pointer} (h : p.musicMode = false) : p.oscillate = p :=
  if_neg (ne_true_of_eq_false h)

theorem Pointer.oscillate_music {p : Pointer} (h : p.musicMode = true) : p.oscillate = { p with
    counter := p.counter.extractLsb' 8 8 ++ p.nextLow
    flag := if p.nextLow ≤ p.bottom then 0x00 else if p.nextLow ≤ p.top then 0xFF else p.flag } :=
  if_pos h

/-! ## The windows and the latch of "66" (R226 to R231) -/

theorem arConfig_eq_of_extract {ctrl : Byte} {n : Nat} (h : ctrl.extractLsb' 2 3 = BitVec.ofNat 3 n) :
    arConfig ctrl = n % 8 := by
  have h := congrArg BitVec.toNat h
  rwa [BitVec.extractLsb'_toNat, BitVec.toNat_ofNat, Nat.shiftRight_eq_div_pow] at h

theorem arMap_lower {ctrl : Byte} {addr : Addr} (h : addr.getLsbD 11 = false) :
    arMap ctrl addr = some (arLowerBank ctrl * 2048 + a11 addr) :=
  if_neg (ne_true_of_eq_false h)

theorem arMap_upper {ctrl : Byte} {addr : Addr} (h : addr.getLsbD 11 = true) :
    arMap ctrl addr = (arUpperBank ctrl).map (fun b => b * 2048 + a11 addr) := if_pos h

theorem Ar.latch_eq (addr : Addr) (m : Ar) : m.latch addr =
    if m.pending = false ∨ m.ctrl.getLsbD 1 = false then
      { m with latched := addr.extractLsb' 0 8, pending := true } else m := by
  simp only [Ar.latch, bit, Bool.or_eq_true, Bool.not_eq_true']

section
variable {addr : Addr} {m : Ar} {s : State}

theorem closeRead_arByte_ram {k : Nat} (h : arMap m.ctrl addr = some k) :
    closeRead addr (arByte addr m s) = Spec.afterRead addr (m.ram.read k) s := by
  rw [arByte, h]
  rfl

theorem closeRead_arByte_rom (h : arMap m.ctrl addr = none) : closeRead addr (arByte addr m s) =
    Spec.drawReply addr (Spec.logged .unimplementedRegister (a13 addr) addr s) := by
  rw [arByte, h]
  rfl

end

/-! ## The write pulse of "66" (R232) -/

theorem exec_arTick_live {s : State} {m : Ar} (hl : s.fatal = none) (hm : s.bus.mapper = .ar66 m) :
    exec .arTick s = .next ((s.setMapper (.ar66 (m.tick s.bus.lastAccessAddr))).answer .none) :=
  variantEvent_live hl (congrArg pickAr hm)

/-- The hold counter after a tick that sees the address `t`. -/
def Ar.nextHeld (t : Addr) (m : Ar) : Nat := if t = m.heldAddr then min (m.heldCount + 1) 6 else 1

theorem Ar.observe_eq (t : Addr) (m : Ar) : m.observe t = { m with heldAddr := t, heldCount := m.nextHeld t } := by
  unfold Ar.observe Ar.nextHeld
  split
  next h => rw [h]
  next => rfl

/-- The pulse's end changes the RAM and the pending write only. -/
theorem Ar.commit_eq (t : Addr) (m : Ar) : m.commit t = { m with ram := (m.commit t).ram, pending := false } := by
  unfold Ar.commit
  split
  · split <;> rfl
  · rfl

/-- The pulse's end stores the latched byte where the address reaches RAM with writes enabled. -/
theorem Ar.commit_read (t : Addr) (m : Ar) (k : Nat) : (m.commit t).ram.read k =
    if t.getLsbD 12 = true ∧ m.ctrl.getLsbD 1 = true ∧ arMap m.ctrl t = some k then m.latched else m.ram.read k := by
  simp only [Ar.commit, bit, Bool.and_eq_true]
  by_cases h : t.getLsbD 12 = true ∧ m.ctrl.getLsbD 1 = true
  · simp only [h, and_self, true_and, if_true]
    cases arMap m.ctrl t with
    | some off => simp only [Mem.read_write, Option.some.injEq, eq_comm]
    | none => rfl
  · rw [if_neg h, if_neg fun hk => h ⟨hk.1, hk.2.1⟩]

theorem Ar.tick_ends {t : Addr} {m : Ar} (h : m.nextHeld t = 5 ∧ m.pending = true) :
    m.tick t = (m.observe t).commit t := if_pos (by rwa [Ar.observe_eq])

theorem Ar.tick_waits {t : Addr} {m : Ar} (h : ¬ (m.nextHeld t = 5 ∧ m.pending = true)) :
    m.tick t = m.observe t := if_neg (by rwa [Ar.observe_eq])

/-- The record after a tick, but for its RAM. -/
theorem Ar.tick_eq (t : Addr) (m : Ar) : m.tick t = { m with
    ram := (m.tick t).ram, pending := m.pending && m.nextHeld t != 5, heldAddr := t, heldCount := m.nextHeld t } := by
  by_cases h : m.nextHeld t = 5 ∧ m.pending = true
  · have hp : (m.pending && m.nextHeld t != 5) = false := by rw [h.1, bne_self_eq_false, Bool.and_false]
    rw [Ar.tick_ends h, hp, Ar.observe_eq]
    exact Ar.commit_eq _ _
  · have hp : (m.pending && m.nextHeld t != 5) = m.pending := by
      rw [Bool.and_eq_left_iff_imp, bne_iff_ne]
      exact fun hp h5 => h ⟨h5, hp⟩
    rw [Ar.tick_waits h, hp, Ar.observe_eq]

theorem Ar.tick_read (t : Addr) (m : Ar) (k : Nat) : (m.tick t).ram.read k =
    if m.nextHeld t = 5 ∧ m.pending = true ∧ t.getLsbD 12 = true ∧ m.ctrl.getLsbD 1 = true ∧ arMap m.ctrl t = some k
    then m.latched else m.ram.read k := by
  by_cases h : m.nextHeld t = 5 ∧ m.pending = true
  · simp only [Ar.tick_ends h, Ar.commit_read, Ar.observe_eq, h, true_and]
  · rw [Ar.tick_waits h, Ar.observe_eq, if_neg fun hk => h ⟨hk.1, hk.2.1⟩]

end Sys2Proof.Machine

namespace Sys2Proof.Proofs

open Sys2Proof Sys2Proof.Machine Sys2Proof.Spec

/-- Settles O30: the twelve control rows, and the windows with their effects. -/
theorem e7Rows : Obligations.E7Rows := by
  refine ⟨fun p hp => ?select, fun tag addr d acc => ⟨cartAt_upTo _ _ _ _, cartAt_upTo _ _ _ _,
    cartAt_within (by decide), cartAt_within (by decide), ?fixed⟩, ?rd, ?wr⟩
  case select =>
    have h : IsE7SelectRow p.1 p.2.1 p.2.2 := by
      simp only [List.mem_cons, List.not_mem_nil, or_false] at hp
      rcases hp with rfl | rfl | rfl | rfl | rfl | rfl | rfl | rfl | rfl | rfl | rfl | rfl
      all_goals exact ⟨fun _ _ _ => rfl, fun _ _ _ => rfl, fun _ => rfl, by decide⟩
    refine ⟨h.wellFormed_iff, ?_, ?_⟩
    · rintro addr s m o hl rfl hm
      exact h.exec_rd hl hm
    · rintro addr d s m o hl rfl hm
      exact h.exec_wr hl hm
  case fixed =>
    rw [Instr.wellFormed, Bool.and_assoc]
    refine cartAt_window ?_
    rw [Bool.and_eq_true, decide_eq_true_iff, Bool.not_eq_true', within_eq_false]
    omega
  case rd =>
    rintro addr s m o hl rfl hm
    have hp := congrArg pickE7 hm
    refine ⟨?_, cartRead_replies hl hp rfl, cartRead_replies hl hp rfl, cartRead_replies_rom hl hp rfl⟩
    rw [exec_e7LowRd, execE7LowRd, cartRead_live hl hp, closeRead_e7LowLoad]
  case wr =>
    rintro addr d s m o hl rfl hm
    have hp := congrArg pickE7 hm
    exact ⟨cartWrite_leaves hl hp rfl, cartWrite_leaves hl hp rfl, cartWrite_leaves hl hp rfl,
      cartWrite_leaves hl hp rfl⟩

/-- Settles O31: the two control rows, and the row of the program ROM. -/
theorem dpcRomRows : Obligations.DpcRomRows := by
  refine ⟨fun p hp => ?select, fun tag addr d => ⟨cartAt_window ?rdWindow, cartAt_window ?wrWindow⟩, ?rd, ?wr⟩
  case select =>
    have h : IsDpcBankRow p.1 p.2.2 (Dpc.select p.2.1) := by
      simp only [List.mem_cons, List.not_mem_nil, or_false] at hp
      rcases hp with rfl | rfl
      all_goals exact ⟨fun _ _ _ => rfl, fun _ _ _ => rfl, fun _ => rfl, by decide⟩
    refine ⟨h.wellFormed_iff, ?_, ?_⟩
    · rintro addr s m o hl rfl hm
      exact h.exec_rd hl hm
    · rintro addr d s m o hl rfl hm
      exact h.exec_wr hl hm
  case rdWindow =>
    rw [dpcRomAt, Bool.and_eq_true, decide_eq_true_iff, Bool.not_eq_true', within_eq_false]
    omega
  case wrWindow =>
    rw [dpcRomAt, Bool.and_eq_true, Bool.or_eq_true, decide_eq_true_iff, decide_eq_true_iff, Bool.not_eq_true',
      within_eq_false]
    omega
  case rd =>
    rintro addr s m o hl rfl hm
    rw [← closeRead_dpcRomRead]
    exact cartRead_live hl (congrArg pickDpc hm)
  case wr =>
    rintro addr d s m o hl rfl hm
    exact cartWrite_leaves hl (congrArg pickDpc hm) rfl

/-- Settles O32: the bits of a step, and the period of the value 1. -/
theorem dpcRandomGenerator : Obligations.DpcRandomGenerator := by
  refine ⟨fun r => ⟨rngNext_feedback r, fun k => rngNext_shift r⟩, by decide, rngNext_stuck, fun n =>
    ⟨times_rngNext_eq_one_iff n, times_rngNext_ne_stuck n⟩⟩

/-- Settles O33: the pointer is latched, the result formed, the counter decremented. -/
theorem dpcReadRows : Obligations.DpcReadRows := by
  refine ⟨fun p hp tag addr => ?window, ?effect⟩
  case window =>
    simp only [List.mem_cons, List.not_mem_nil, or_false] at hp
    rcases hp with rfl | rfl | rfl | rfl | rfl | rfl | rfl | rfl | rfl
    case inl | inr.inl =>
      rw [Instr.wellFormed, Bool.and_assoc]
      refine cartAt_window ((dpcReadAt_zero_window decide_eq_true_iff).trans ?_)
      dsimp only [a13, a3]
      omega
    all_goals exact cartAt_window (dpcReadAt_window (by decide))
  case effect =>
    rintro addr s m o i w q m' hl rfl hm rfl hw hq rfl
    obtain rfl : w = (m.ptr.get (a3 addr)).window := hw.trans (Pointer.window_eq _).symm
    obtain rfl : q = (m.ptr.get (a3 addr)).window.counted (a3 addr) := hq.trans (Pointer.counted_eq _ _).symm
    refine ⟨dpcRegRead_replies hl hm fun _ => rfl, ⟨_, dpcRegRead_replies hl hm fun _ => rfl, fun on hon => ?mix⟩,
      fun p hp => ?data, dpcRegRead_replies hl hm fun o => by rw [dpcFlag, m.latched_get (a3_lt addr)]⟩
    case mix =>
      have h (j : Nat) (hj : j < 8) : ((m.latched (a3 addr)).ptr.get j).active = on j := by
        rw [m.latched_get_eq (a3_lt addr) hj]
        exact (hon j).symm
      have h5 : (m.latched (a3 addr)).ptr.q5.active = on 5 := h 5 (by decide)
      have h6 : (m.latched (a3 addr)).ptr.q6.active = on 6 := h 6 (by decide)
      have h7 : (m.latched (a3 addr)).ptr.q7.active = on 7 := h 7 (by decide)
      rw [Dpc.mixIndex, h5, h6, h7]
      cases on 7 <;> cases on 6 <;> cases on 5 <;> rfl
    case data =>
      simp only [List.mem_cons, List.not_mem_nil, or_false] at hp
      rcases hp with rfl | rfl | rfl | rfl | rfl | rfl
      · exact dpcRegRead_replies_rom hl hm fun _ => rfl
      · exact dpcRegRead_gated (g := id) hl hm fun _ => rfl
      · exact dpcRegRead_gated hl hm swapNibbles_eq_rotateLeft
      · exact dpcRegRead_gated hl hm reverseBits_eq_reverse
      · exact dpcRegRead_gated hl hm rotateRight_eq_rotateRight
      · exact dpcRegRead_gated hl hm rotateLeft_eq_rotateLeft

/-- Settles O34: the windows of the functions, and what each leaves. -/
theorem dpcWriteRows : Obligations.DpcWriteRows := by
  refine ⟨fun p hp tag addr d => ?window, fun tag addr d => cartAt_window (dpcNotImpl_window addr), ?effect⟩
  case window =>
    simp only [List.mem_cons, List.not_mem_nil, or_false] at hp
    rcases hp with rfl | rfl | rfl | rfl | rfl
    all_goals exact cartAt_window (dpcWriteAt_window (by decide))
  case effect =>
    rintro addr d s m o i p set hl rfl hm rfl rfl rfl
    have hp := congrArg pickDpc hm
    refine ⟨cartWrite_leaves hl hp rfl, cartWrite_leaves hl hp rfl, ?low, cartWrite_leaves hl hp rfl,
      cartWrite_leaves hl hp rfl, cartWrite_leaves hl hp rfl⟩
    case low =>
      rw [← Pointer.writeLow_eq]
      exact cartWrite_leaves hl hp rfl

/-- Settles O35: the tick counts, and the sixtieth oscillates. -/
theorem dpcTick : Obligations.DpcTick := by
  intro s m hl hm
  have hb : m.tick.bank = m.bank ∧ m.tick.rng = m.rng := by
    by_cases h : m.oscTicks = 59
    · rw [Dpc.tick_oscillates h]
      exact ⟨rfl, rfl⟩
    · rw [Dpc.tick_counts h]
      exact ⟨rfl, rfl⟩
  refine ⟨m.tick, exec_dpcTick_live hl hm, hb.1, hb.2, Dpc.tick_counts, fun h =>
    ⟨by rw [Dpc.tick_oscillates h], fun i => Dpc.tick_get_low, ?_⟩⟩
  rintro i h5 h8 p q low rfl hq hlow
  obtain rfl : q = (m.ptr.get i).oscillate := hq.trans (Dpc.tick_get_high h h5 h8)
  obtain rfl : low = (m.ptr.get i).nextLow := hlow
  exact ⟨Pointer.oscillate_silent, Pointer.oscillate_music⟩

/-- Settles O36: the bank of each window, and the record that each row changes before it is served. -/
theorem arRows : Obligations.ArRows := by
  refine ⟨fun p hp ctrl addr hc => ?map, fun tag addr d acc => ⟨cartAt_upTo _ _ _ _, cartAt_single (by decide),
    ?memRd, ?memWr⟩, ?rows⟩
  case map =>
    have hn := arConfig_eq_of_extract hc
    have hb : arLowerBank ctrl = p.2.1 ∧ arUpperBank ctrl = p.2.2 := by
      simp only [List.mem_cons, List.not_mem_nil, or_false] at hp
      rw [arLowerBank, arUpperBank, hn]
      rcases hp with rfl | rfl | rfl | rfl | rfl | rfl | rfl | rfl
      all_goals exact ⟨rfl, rfl⟩
    rw [← hb.1, ← hb.2]
    exact ⟨arMap_lower, arMap_upper⟩
  case memRd | memWr =>
    rw [Instr.wellFormed, Bool.and_assoc]
    refine cartAt_window ?_
    rw [Bool.and_eq_true, decide_eq_true_iff, bne_iff_ne]
    omega
  case rows =>
    rintro addr s m l c hl hlatch rfl
    obtain rfl : l = m.latch addr := hlatch.trans (Ar.latch_eq addr m).symm
    refine ⟨?rd, ?wr⟩
    case rd =>
      rintro o rfl hm p hp
      have hpick := congrArg pickAr hm
      have hself : withMapper (.ar66 m) (opened addr .rd s) = opened addr .rd s := State.setMapper_self hm
      have he : exec p.1 s = .next (closeRead addr (arByte addr p.2 (withMapper (.ar66 p.2) (opened addr .rd s)))) := by
        simp only [List.mem_cons, List.not_mem_nil, or_false] at hp
        rcases hp with rfl | rfl | rfl
        · exact cartRead_live hl hpick
        · exact cartRead_live hl hpick
        · exact (cartRead_live hl hpick).trans (by rw [hself])
      rw [he]
      split
      next k hk => rw [closeRead_arByte_ram hk]
      next hk => rw [closeRead_arByte_rom hk]
    case wr =>
      rintro d o rfl hm p hp
      have hpick := congrArg pickAr hm
      simp only [List.mem_cons, List.not_mem_nil, or_false] at hp
      rcases hp with rfl | rfl | rfl
      · exact cartWrite_leaves hl hpick rfl
      · exact cartWrite_leaves hl hpick rfl
      · exact cartWrite_leaves hl hpick (State.setMapper_self hm).symm

/-- Settles O37: the record after the tick, and the bytes of its RAM. -/
theorem arTick : Obligations.ArTick := by
  rintro s m t hl hm rfl
  refine ⟨_, exec_arTick_live hl hm, ?_⟩
  generalize s.bus.lastAccessAddr = t
  have hheld : (m.tick t).heldCount = m.nextHeld t := by rw [Ar.tick_eq]
  rw [hheld]
  refine ⟨?_, ?_, ?_, ?_, rfl, ?_, Ar.tick_read t m⟩
  all_goals rw [Ar.tick_eq]

end Sys2Proof.Proofs
end

section
/-! The beam's position within a processor cycle (R44, R320, R343, R443): the five operations that bring the beam
somewhere, and every other operation, which leaves it where it is. -/

namespace Sys2Proof

/-- The colour clocks, alone or within an operation, and the two operations that bring a state from outside. -/
def Instr.movesBeam : Instr → Bool
  | .tiaTick | .cycle | .run _ | .step _ | .snapshotLoad _ _ | .powerOn _ _ _ _ => true
  | _ => false

end Sys2Proof

namespace Sys2Proof.Machine

/-! ## What leaves the beam where it is -/

section
variable {α : Type} {pick : Mapper → Option α} {addr : Addr} {d : Byte} {acc : Access} {s t : State}

theorem opened_beam (addr : Addr) (acc : Access) (s : State) : (opened addr acc s).tia.x = s.tia.x :=
  (ServeFrame.opened addr acc s).beam

theorem readCycle_beam {f : State → Byte × State} (hf : ∀ o, (f o).2.tia.x = o.tia.x)
    (e : readCycle addr f s = .next t) : t.tia.x = s.tia.x := by
  obtain ⟨-, rfl⟩ := readCycle_next.1 e
  exact (hf _).trans (opened_beam addr .rd s)

theorem writeCycle_beam {f : State → State} (hf : ∀ o, (f o).tia.x = o.tia.x)
    (e : writeCycle addr d f s = .next t) : t.tia.x = s.tia.x := by
  obtain ⟨-, rfl⟩ := writeCycle_next.1 e
  exact (hf _).trans (opened_beam addr (.wr d) s)

theorem cartRead_beam {f : α → State → Byte × State} (hf : ∀ m o, (f m o).2.tia.x = o.tia.x)
    (e : cartRead pick addr f s = .next t) : t.tia.x = s.tia.x := by
  obtain ⟨-, m, -, rfl⟩ := cartRead_next.1 e
  exact (hf m _).trans (opened_beam addr .rd s)

theorem cartWrite_beam {f : α → State → State} (hf : ∀ m o, (f m o).tia.x = o.tia.x)
    (e : cartWrite pick addr d f s = .next t) : t.tia.x = s.tia.x := by
  obtain ⟨-, m, -, rfl⟩ := cartWrite_next.1 e
  exact (hf m _).trans (opened_beam addr (.wr d) s)

theorem cartAccess_beam {f : α → State → Byte × State} {g : α → Byte → State → State}
    (hf : ∀ m o, (f m o).2.tia.x = o.tia.x) (hg : ∀ m d o, (g m d o).tia.x = o.tia.x)
    (e : cartAccess pick addr acc f g s = .next t) : t.tia.x = s.tia.x := by
  cases acc with
  | rd => exact cartRead_beam hf e
  | wr d => exact cartWrite_beam (fun m => hg m d) e

theorem whileLive_beam {f : State → State} (hf : (f s).tia.x = s.tia.x) (e : whileLive f s = .next t) :
    t.tia.x = s.tia.x := by
  obtain ⟨-, rfl⟩ := whileLive_next.1 e
  exact hf

theorem variantEvent_beam {f : α → State → State} (hf : ∀ m, (f m s).tia.x = s.tia.x)
    (e : variantEvent pick f s = .next t) : t.tia.x = s.tia.x := by
  unfold variantEvent at e
  split at e
  · cases e
  split at e
  · cases e
  · cases e
    exact hf _

end

theorem romByte_beam (i : Nat) (s : State) : (romByte i s).2.tia.x = s.tia.x := (ServeFrame.romByte i s).beam

theorem stdScRead_beam (addr : Addr) (m : Std) (s : State) : (stdScRead addr m s).2.tia.x = s.tia.x := by
  unfold stdScRead
  split
  · rfl
  · exact romByte_beam _ s

theorem stdRomRead_beam (addr : Addr) (m : Std) (s : State) : (stdRomRead addr m s).2.tia.x = s.tia.x := by
  unfold stdRomRead
  split
  · rfl
  · exact romByte_beam _ s

theorem e7LowLoad_beam (addr : Addr) (m : E7) (s : State) : (e7LowLoad addr m s).2.tia.x = s.tia.x := by
  unfold e7LowLoad
  split
  · exact romByte_beam _ s
  split <;> rfl

theorem e7LowStore_beam (addr : Addr) (d : Byte) (m : E7) (s : State) : (e7LowStore addr d m s).tia.x = s.tia.x := by
  unfold e7LowStore
  split <;> rfl

theorem dpcRomRead_beam (addr : Addr) (m : Dpc) (s : State) : (dpcRomRead addr m s).2.tia.x = s.tia.x := by
  unfold dpcRomRead
  split
  · rfl
  · exact romByte_beam _ s

theorem arByte_beam (addr : Addr) (m : Ar) (s : State) : (arByte addr m s).2.tia.x = s.tia.x :=
  (ServeFrame.arByte addr m s).beam

theorem arInitialize_beam (s : State) : (arInitialize s).tia.x = s.tia.x := by
  obtain ⟨ram, ctrl, entry, n, e, -⟩ := arInitialize_record s
  rw [e]
  rfl

theorem mapperInit_beam (s : State) : (mapperInit s).tia.x = s.tia.x := by
  unfold mapperInit
  split
  · exact arInitialize_beam s
  · rfl

theorem execSetInput_beam {i : Input} {s t : State} (e : execSetInput i s = .next t) : t.tia.x = s.tia.x := by
  unfold execSetInput at e
  split at e
  · exact whileLive_beam rfl e
  · cases e

/-- No operation but a colour clock, what contains one, and the two that bring a state from outside, moves the beam. -/
theorem exec_beam {s t : State} : ∀ i : Instr, i.movesBeam = false → exec i s = .next t → t.tia.x = s.tia.x
  -- The write registers of the video chip.
  | .vsync _ d => fun _ => writeCycle_beam fun o => (ServeFrame.wrVsync d o).beam
  | .vblank _ _ | .wsync _ _ | .rsync _ _ | .nusiz0 _ _ | .nusiz1 _ _ | .colup0 _ _ | .colup1 _ _ | .colupf _ _
  | .colubk _ _ | .ctrlpf _ _ | .refp0 _ _ | .refp1 _ _ | .pf0 _ _ | .pf1 _ _ | .pf2 _ _ | .resp0 _ _ | .resp1 _ _
  | .resm0 _ _ | .resm1 _ _ | .resbl _ _ | .audc0 _ _ | .audc1 _ _ | .audf0 _ _ | .audf1 _ _ | .audv0 _ _
  | .audv1 _ _ | .grp0 _ _ | .grp1 _ _ | .enam0 _ _ | .enam1 _ _ | .enabl _ _ | .hmp0 _ _ | .hmp1 _ _ | .hmm0 _ _
  | .hmm1 _ _ | .hmbl _ _ | .vdelp0 _ _ | .vdelp1 _ _ | .vdelbl _ _ | .resmp0 _ _ | .resmp1 _ _ | .hmove _ _
  | .hmclr _ _ | .cxclr _ _ | .tiaw2D _ _ | .tiaw2E _ _ | .tiaw2F _ _ | .tiaw30 _ _ | .tiaw31 _ _ | .tiaw32 _ _
  | .tiaw33 _ _ | .tiaw34 _ _ | .tiaw35 _ _ | .tiaw36 _ _ | .tiaw37 _ _ | .tiaw38 _ _ | .tiaw39 _ _ | .tiaw3A _ _
  | .tiaw3B _ _ | .tiaw3C _ _ | .tiaw3D _ _ | .tiaw3E _ _ | .tiaw3F _ _ => fun _ => writeCycle_beam fun _ => rfl
  -- Its read registers.
  | .cxm0p _ | .cxm1p _ | .cxp0fb _ | .cxp1fb _ | .cxm0fb _ | .cxm1fb _ | .cxblpf _ | .cxppmm _ | .inpt4 _ | .inpt5 _
  | .tiarE _ | .tiarF _ => fun _ => readCycle_beam fun _ => rfl
  | .inpt0 _ | .inpt1 _ | .inpt2 _ | .inpt3 _ => fun _ => readCycle_beam fun o => (ServeFrame.readPot _ o).beam
  -- RAM, ports and timer.
  | .ramRd _ | .swchaRd _ | .swacntRd _ | .swchbRd _ | .swbcntRd _ | .intim _ | .timint _ => fun _ =>
    readCycle_beam fun _ => rfl
  | .ramWr _ _ | .swchaWr _ _ | .swacntWr _ _ | .swchbWr _ _ | .swbcntWr _ _ | .edgectl _ _ | .tim1t _ _ | .tim8t _ _
  | .tim64t _ _ | .t1024t _ _ => fun _ => writeCycle_beam fun _ => rfl
  -- `Unknown` and the standard family.
  | .unkRom _ => fun _ => cartRead_beam fun _ _ => romByte_beam _ _
  | .unkWr _ _ | .f8Wr _ _ | .f6Wr _ _ | .f4Wr _ _ | .f8Scw _ _ | .f6Scw _ _ | .f4Scw _ _ => fun _ =>
    cartWrite_beam fun _ _ => rfl
  | .f8Bank0 _ _ | .f8Bank1 _ _ | .f6Bank0 _ _ | .f6Bank1 _ _ | .f6Bank2 _ _ | .f6Bank3 _ _ | .f4Bank0 _ _
  | .f4Bank1 _ _ | .f4Bank2 _ _ | .f4Bank3 _ _ | .f4Bank4 _ _ | .f4Bank5 _ _ | .f4Bank6 _ _ | .f4Bank7 _ _ => fun _ =>
    cartAccess_beam (fun _ _ => romByte_beam _ _) fun _ _ _ => rfl
  | .f8Scr a | .f6Scr a | .f4Scr a => fun _ => cartRead_beam (stdScRead_beam a)
  | .f8Rom a | .f6Rom a | .f4Rom a => fun _ => cartRead_beam (stdRomRead_beam a)
  -- The rows of the other variants that read the image, and those that read their record or nothing.
  | .faBank0 _ _ | .faBank1 _ _ | .faBank2 _ _ | .faRom _ _ | .f0Next _ _ | .f0Rom _ _ | .e0S0 _ _ | .e0S1 _ _
  | .e0S2 _ _ | .e0Rom _ _ | .feRom _ _ | .c0Rom _ _ | .e7Bank0 _ _ | .e7Bank1 _ _ | .e7Bank2 _ _ | .e7Bank3 _ _
  | .e7Bank4 _ _ | .e7Bank5 _ _ | .e7Bank6 _ _ | .e7Ramon _ _ | .e7Rbank0 _ _ | .e7Rbank1 _ _ | .e7Rbank2 _ _
  | .e7Rbank3 _ _ | .e7Fixed _ _ | .dpcBank0 _ _ | .dpcBank1 _ _ => fun _ =>
    cartAccess_beam (fun _ _ => romByte_beam _ _) fun _ _ _ => rfl
  | .faRamw _ _ | .faRamr _ _ | .c0Ramr _ _ | .c0Ramw _ _ | .e7R256w _ _ | .e7R256r _ _ => fun _ =>
    cartAccess_beam (fun _ _ => rfl) fun _ _ _ => rfl
  -- The rest of 3F, E7, DPC and "66".
  | .m3fBank a d => fun _ => cartWrite_beam fun _ o => (ServeFrame.tiaWrite a d o).beam
  | .m3fRom a _ => fun _ => cartAccess_beam (fun m o => (ServeFrame.m3fRead a m o).beam) fun _ _ _ => rfl
  | .e7LowRd a => fun _ => cartRead_beam (e7LowLoad_beam a)
  | .e7LowWr a d => fun _ => cartWrite_beam (e7LowStore_beam a d)
  | .dpcRom a _ => fun _ => cartAccess_beam (dpcRomRead_beam a) fun _ _ _ => rfl
  | .dpcRdRng _ | .dpcRdMusic _ | .dpcRdFlag _ => fun _ => cartRead_beam fun _ _ => rfl
  | .dpcRdData _ | .dpcRdGated _ | .dpcRdSwap _ | .dpcRdRev _ | .dpcRdRor _ | .dpcRdRol _ => fun _ =>
    cartRead_beam fun _ _ => romByte_beam _ _
  | .dpcWrTop _ _ | .dpcWrBottom _ _ | .dpcWrLow _ _ | .dpcWrHigh _ _ | .dpcWrRngReset _ _ | .dpcWrNotImpl _ _
  | .arMemWr _ _ => fun _ => cartWrite_beam fun _ _ => rfl
  | .arLatch a _ | .arCtrl a _ => fun _ => cartAccess_beam (fun _ _ => arByte_beam a _ _) fun _ _ _ => rfl
  | .arMemRd a => fun _ => cartRead_beam (arByte_beam a)
  -- The events.
  | .timerTick | .mapperTick | .apuTick | .inputSample => fun _ => whileLive_beam rfl
  | .mapperResolve a w => fun _ => whileLive_beam (congrArg Tia.x (resolve_frame a w s).tia)
  | .mapperInit => fun _ => whileLive_beam (mapperInit_beam s)
  | .frameReady | .readFb | .readSound _ | .snapshotSave | .formatClassify _ => fun _ e => by cases e; rfl
  | .setInput _ => fun _ => execSetInput_beam
  | .feTick | .dpcTick | .arTick => fun _ => variantEvent_beam fun _ => rfl
  | .ar66Initialize => fun _ => variantEvent_beam fun _ => arInitialize_beam s
  | .tiaTick | .cycle | .run _ | .step _ | .snapshotLoad _ _ | .powerOn _ _ _ _ => nofun

/-! ## What moves it by whole cycles -/

theorem State.onCycle_iff (s : State) : s.onCycle = true ↔ (s.tia.x + 68) % 3 = 0 := by
  unfold State.onCycle emod
  rw [beq_iff_eq]
  omega

theorem onCycle_of_beam {s t : State} (h : t.tia.x = s.tia.x) (hs : s.onCycle = true) : t.onCycle = true := by
  rwa [State.onCycle, h]

theorem answer_onCycle (r : Reply) {s : State} (h : s.onCycle = true) : (s.answer r).onCycle = true := h

/-- Three colour clocks from a boundary: the line can end with the third one only. -/
theorem cycleOnce_onCycle (s : State) (h : s.onCycle = true) : (cycleOnce s).onCycle = true := by
  rw [State.onCycle_iff] at *
  rw [cycleOnce_tia]
  simp only [tick_x]
  omega

theorem runCycles_onCycle (n : Nat) {s : State} (h : s.onCycle = true) : (runCycles n s).onCycle = true :=
  onCycle_of_beam (s := cycleTimes n s) rfl (cycleTimes_keeps cycleOnce_onCycle n s h)

theorem busTransaction_beam (addr : Addr) (acc : Access) (s : State) :
    (busTransaction addr acc s).tia.x = s.tia.x := by
  cases acc with
  | rd => exact ((ServeFrame.opened addr .rd s).trans (ServeFrame.serveRead addr _)).beam
  | wr d => exact ((ServeFrame.opened addr (.wr d) s).trans (ServeFrame.serveWrite addr d _)).beam

/-- The events of an instruction, by induction on them: a bus event leaves the beam, and `RUN` moves it by cycles. -/
theorem runEvents_onCycle (events : List CoreEvent) (seen : List Byte) {s : State} (h : s.onCycle = true) :
    (runEvents events seen s).2.onCycle = true := by
  induction events generalizing seen s with
  | nil => exact h
  | cons e rest ih =>
    cases e with
    | rd addr => exact ih _ (onCycle_of_beam (busTransaction_beam addr .rd s) h)
    | wr addr d => exact ih _ (onCycle_of_beam (busTransaction_beam addr (.wr d) s) h)
    | run n => exact ih _ (answer_onCycle _ (runCycles_onCycle n h))

theorem execStep_onCycle {events : List CoreEvent} {s t : State} (h : s.onCycle = true)
    (e : execStep events s = .next t) : t.onCycle = true := by
  unfold execStep at e
  split at e
  · cases e
    exact h
  split at e <;> cases e
  · exact answer_onCycle _ (runCycles_onCycle 1 h)
  · exact answer_onCycle _ (runEvents_onCycle events [] h)

/-- Power-on puts the beam at the start of a line, with or without a variant (R510). -/
theorem execPowerOn_onCycle {image : Image} {format : TvFormat} {mode0 mode1 : ControllerMode} {s t : State}
    (e : execPowerOn image format mode0 mode1 s = .next t) : t.onCycle = true := by
  have hr : State.reset.onCycle = true := by decide
  cases e
  cases hd : detectedTag image with
  | none =>
    rw [finishPowerOn_unrecognized hd]
    exact onCycle_of_beam (s := State.reset) rfl hr
  | some v =>
    rw [finishPowerOn_detected hd]
    exact onCycle_of_beam (s := State.reset) (mapperInit_beam _) hr

theorem exec_onCycle {i : Instr} {s t : State} (hi : i ≠ .tiaTick)
    (hl : ∀ snap image, i ≠ .snapshotLoad snap image) (e : exec i s = .next t) (h : s.onCycle = true) :
    t.onCycle = true := by
  cases hm : i.movesBeam with
  | false => exact onCycle_of_beam (exec_beam i hm e) h
  | true =>
    unfold Instr.movesBeam at hm
    split at hm
    next => exact absurd rfl hi
    next =>
      obtain ⟨-, rfl⟩ := whileLive_next.1 e
      exact answer_onCycle _ (cycleOnce_onCycle s h)
    next n =>
      obtain ⟨-, rfl⟩ := whileLive_next.1 e
      exact answer_onCycle _ (runCycles_onCycle n h)
    next => exact execStep_onCycle h e
    next snap image => exact absurd rfl (hl snap image)
    next => exact execPowerOn_onCycle e
    next => cases hm

end Sys2Proof.Machine

namespace Sys2Proof.Proofs

open Sys2Proof Sys2Proof.Machine

/-- Settles O43: an operation leaves the beam where it is, or moves it by whole cycles, or is power-on. -/
theorem cyclePhaseIsKept : Obligations.CyclePhaseIsKept := fun _ s t hi hl e h =>
  (State.onCycle_iff t).1 (exec_onCycle hi hl e ((State.onCycle_iff s).2 h))

end Sys2Proof.Proofs
end

section
/-! The write registers of the video chip (R242 to R286): the register effects that the statements spell out in another
form, and the rows, which are these effects inside a bus write. -/

namespace Sys2Proof.Machine

/-! ## Effects -/

/-- The falling edge of the bit completes the frame (R242). -/
theorem wrVsync_eq (d : Byte) (s : State) : wrVsync d s = s.setTia (
    if s.tia.vsync = true ∧ d.getLsbD 1 = false then
      { s.tia with
        lastFrameLines := s.tia.y - Config.yTop s.tvFormat
        frameReady := true
        y := Config.yTop s.tvFormat
        vsync := false }
    else { s.tia with vsync := d.getLsbD 1 }) := by
  unfold wrVsync bit
  simp only [Bool.and_eq_true, Bool.not_eq_true']
  split <;> rfl

/-- The ports after a write of `VBLANK`, field by field (R243). -/
theorem wrVblank_io (d : Byte) (s : State) : (wrVblank d s).io = { s.io with
    inptLatch0 := if d.getLsbD 6 then s.io.inptLatch0 else true
    inptLatch1 := if d.getLsbD 6 then s.io.inptLatch1 else true
    paddleCharged0 := if d.getLsbD 7 then false else s.io.paddleCharged0
    paddleCharged1 := if d.getLsbD 7 then false else s.io.paddleCharged1
    paddleCharged2 := if d.getLsbD 7 then false else s.io.paddleCharged2
    paddleCharged3 := if d.getLsbD 7 then false else s.io.paddleCharged3
    paddleStart := if d.getLsbD 7 = false ∧ s.tia.vblankDump = true then s.cycles else s.io.paddleStart } := by
  unfold wrVblank resetLatches dumpPaddles bit
  cases d.getLsbD 6 <;> cases d.getLsbD 7 <;> cases s.tia.vblankDump <;> rfl

/-! ## Playfield bits (R255 to R257) -/

/-- The pattern bits that the loads of `PF0`, `PF1` and `PF2` keep. -/
theorem keepMasks_getLsbD {k : Nat} (hk : k < 20) : (0xFFFF0#20).getLsbD k = decide (4 ≤ k) ∧
    (0xFF00F#20).getLsbD k = decide (k < 4 ∨ 12 ≤ k) ∧ (0x00FFF#20).getLsbD k = decide (k < 12) := by
  revert k
  decide

theorem loadPf0_getLsbD (pf : BitVec 20) (d : Byte) {k : Nat} (hk : k < 20) :
    (loadPf0 pf d).getLsbD k = if k < 4 then d.getLsbD (4 + k) else pf.getLsbD k := by
  obtain ⟨hm, -, -⟩ := keepMasks_getLsbD hk
  rw [loadPf0, BitVec.getLsbD_or, BitVec.getLsbD_and, hm, BitVec.getLsbD_setWidth, hi4, BitVec.getLsbD_extractLsb']
  grind

theorem loadPf1_getLsbD (pf : BitVec 20) (d : Byte) {k : Nat} (hk : k < 20) :
    (loadPf1 pf d).getLsbD k = if 4 ≤ k ∧ k < 12 then d.getLsbD (7 - (k - 4)) else pf.getLsbD k := by
  obtain ⟨-, hm, -⟩ := keepMasks_getLsbD hk
  rw [loadPf1, BitVec.getLsbD_or, BitVec.getLsbD_and, hm, BitVec.getLsbD_shiftLeft, BitVec.getLsbD_setWidth]
  by_cases h : k - 4 < 8
  · rw [reverseBits_getLsbD d _ h]
    grind
  · rw [BitVec.getLsbD_of_ge (reverseBits d) (k - 4) (by omega)]
    grind

theorem loadPf2_getLsbD (pf : BitVec 20) (d : Byte) {k : Nat} (hk : k < 20) :
    (loadPf2 pf d).getLsbD k = if 12 ≤ k then d.getLsbD (k - 12) else pf.getLsbD k := by
  obtain ⟨-, -, hm⟩ := keepMasks_getLsbD hk
  rw [loadPf2, BitVec.getLsbD_or, BitVec.getLsbD_and, hm, BitVec.getLsbD_shiftLeft, BitVec.getLsbD_setWidth]
  grind

end Sys2Proof.Machine

namespace Sys2Proof.Proofs

open Sys2Proof Sys2Proof.Machine Sys2Proof.Spec

/-- Settles O10: the row stores the bit, and its falling edge completes the frame. -/
theorem vsyncWrite : Obligations.VsyncWrite := by
  rintro addr d s o hl rfl
  exact (writeCycle_live hl).trans (by rw [wrVsync_eq]; rfl)

/-- Settles O11: the three flags, and the ports field by field. -/
theorem vblankWrite : Obligations.VblankWrite := by
  rintro addr d s o hl rfl
  rw [← wrVblank_io]
  exact writeCycle_live hl

/-- Settles O15: each row stores its fields, and the playfield rows load their pattern bits. -/
theorem shapeMotionAndGraphicsWrites : Obligations.ShapeMotionAndGraphicsWrites := by
  refine ⟨?fields, ?playfield, ?shapes⟩
  case fields =>
    rintro addr d s o hl rfl
    and_intros
    all_goals exact writeCycle_live hl
  case playfield =>
    rintro addr d s o hl rfl
    exact ⟨⟨_, writeCycle_live hl, fun _ => loadPf0_getLsbD _ d⟩,
      ⟨_, writeCycle_live hl, fun _ => loadPf1_getLsbD _ d⟩, ⟨_, writeCycle_live hl, fun _ => loadPf2_getLsbD _ d⟩⟩
  case shapes =>
    rintro addr d s o hl rfl
    and_intros
    all_goals exact writeCycle_live hl

/-- Settles O12: each strobe's effect inside a bus write; none of them takes the data byte. -/
theorem tiaStrobes : Obligations.TiaStrobes := by
  rintro addr d s o hl rfl
  and_intros
  all_goals exact writeCycle_live hl

/-- Settles O13: each row stores its field of the channel inside a bus write. -/
theorem soundRegisterWrites : Obligations.SoundRegisterWrites := by
  rintro addr d s o hl rfl
  and_intros
  all_goals exact writeCycle_live hl

/-- Settles O14: each row stores its byte or bit inside a bus write, and `CXCLR` the empty latches. -/
theorem colourEnableAndClearWrites : Obligations.ColourEnableAndClearWrites := by
  rintro addr d s o hl rfl
  and_intros
  all_goals exact writeCycle_live hl

end Sys2Proof.Proofs
end

section
/-! The read registers of the video chip (R288 to R303): the bits a register drives, and the rows, which change nothing
but the count of draws. -/

namespace Sys2Proof.Machine

/-! ## The driven bits (R288, R298) -/

theorem bitNat_mod_two (b : Bool) : decide (bitNat b % 2 = 1) = b := by cases b <;> rfl

theorem driven_getLsbD_seven (b7 b6 : Bool) (low : BitVec 6) : (driven b7 b6 low).getLsbD 7 = b7 := by
  have h6 : bitNat b6 ≤ 1 := by cases b6 <;> decide
  have hq : (bitNat b7 * 128 + bitNat b6 * 64 + low.toNat) / 2 ^ 7 = bitNat b7 := by omega
  rw [driven, BitVec.getLsbD_ofNat, Nat.testBit_eq_decide_div_mod_eq, hq, bitNat_mod_two]
  rfl

theorem driven_getLsbD_six (b7 b6 : Bool) (low : BitVec 6) : (driven b7 b6 low).getLsbD 6 = b6 := by
  have hq : (bitNat b7 * 128 + bitNat b6 * 64 + low.toNat) / 2 ^ 6 % 2 = bitNat b6 % 2 := by omega
  rw [driven, BitVec.getLsbD_ofNat, Nat.testBit_eq_decide_div_mod_eq, hq, bitNat_mod_two]
  rfl

theorem topBit_getLsbD_seven (b : Bool) (s : State) : (topBit b s).1.getLsbD 7 = b := driven_getLsbD_seven _ _ _

/-! ## A read draws and changes nothing else -/

theorem twoBits_draws (b7 b6 : Bool) (s : State) : AfterDraws s (twoBits b7 b6 s).2 := (AfterDraws.refl s).drew

theorem topBit_draws {s t : State} (b : Bool) (h : AfterDraws s t) : AfterDraws s (topBit b t).2 := h.drew.drew

theorem potLine_draws (k : Pot) (s : State) : AfterDraws s (potLine k s).2 := by
  unfold potLine
  cases s.mode k.port with
  | joystick => exact (AfterDraws.refl s).drew
  | paddle | keypad => exact AfterDraws.refl s

section
variable {addr : Addr} {s : State}

theorem readCycle_draws {f : State → Byte × State} (hl : s.fatal = none) (hf : ∀ o, AfterDraws o (f o).2) :
    ∃ n, readCycle addr f s = .next (
      Spec.afterRead addr (f (opened addr .rd s)).1 { opened addr .rd s with draws := n }) := by
  obtain ⟨n, hn⟩ := hf (opened addr .rd s)
  refine ⟨n, (readCycle_live hl).trans ?_⟩
  rw [closeRead, hn]
  rfl

/-- A collision register with two latches (R290 to R295, R297). -/
theorem readCycle_twoBits (b7 b6 : Collisions → Bool) (hl : s.fatal = none) :
    ∃ v n, readCycle addr (fun o => twoBits (b7 o.tia.cx) (b6 o.tia.cx) o) s =
        .next (Spec.afterRead addr v { opened addr .rd s with draws := n }) ∧
      v.getLsbD 7 = b7 s.tia.cx ∧ v.getLsbD 6 = b6 s.tia.cx := by
  obtain ⟨n, e⟩ := readCycle_draws (addr := addr) hl fun o => twoBits_draws (b7 o.tia.cx) (b6 o.tia.cx) o
  rw [← (opened_frame addr .rd s).tia]
  exact ⟨_, n, e, driven_getLsbD_seven _ _ _, driven_getLsbD_six _ _ _⟩

/-- A register with one line, which detection does not change (R296, R302). -/
theorem readCycle_topBit {line : State → Bool} (hl : s.fatal = none) (hline : line (opened addr .rd s) = line s) :
    ∃ v n, readCycle addr (fun o => topBit (line o) o) s =
        .next (Spec.afterRead addr v { opened addr .rd s with draws := n }) ∧ v.getLsbD 7 = line s := by
  obtain ⟨n, e⟩ := readCycle_draws (addr := addr) hl fun o => topBit_draws (line o) (AfterDraws.refl o)
  exact ⟨_, n, e, (topBit_getLsbD_seven _ _).trans hline⟩

theorem opened_mode (addr : Addr) (acc : Access) (s : State) (p : Port) : (opened addr acc s).mode p = s.mode p := by
  have hf := opened_frame addr acc s
  cases p with
  | port0 => exact hf.mode0
  | port1 => exact hf.mode1

theorem opened_trigLine (addr : Addr) (acc : Access) (s : State) (p : Port) :
    trigLine (opened addr acc s) p = trigLine s p := by
  have hf := opened_frame addr acc s
  simp only [trigLine, opened_mode, hf.tia, hf.io, hf.input]

/-- `INPT0` to `INPT3`, by the mode of the line's port (R298). -/
theorem readCycle_readPot (k : Pot) (hl : s.fatal = none) :
    ∃ v n, readCycle addr (readPot k) s = .next (Spec.afterRead addr v { opened addr .rd s with draws := n }) ∧
      (s.mode k.port = .paddle → v.getLsbD 7 = (s.io.charged k && !s.tia.vblankDump)) ∧
      (s.mode k.port = .keypad → v.getLsbD 7 = keypadColumn s.io s.input k.port k.column) := by
  have hf := opened_frame addr .rd s
  obtain ⟨n, e⟩ := readCycle_draws (addr := addr) (f := readPot k) hl fun o => topBit_draws _ (potLine_draws k o)
  refine ⟨_, n, e, fun hm => (topBit_getLsbD_seven _ _).trans ?_, fun hm => (topBit_getLsbD_seven _ _).trans ?_⟩
  all_goals simp only [potLine, opened_mode, hm, hf.tia, hf.io, hf.input]

/-- `INPT4` and `INPT5`, by the mode of the port (R302). -/
theorem readCycle_readTrig (p : Port) (hl : s.fatal = none) :
    ∃ v n, readCycle addr (readTrig p) s = .next (Spec.afterRead addr v { opened addr .rd s with draws := n }) ∧
      (s.mode p = .joystick → v.getLsbD 7 = if s.tia.vblankLatch then s.io.latch p else !(s.input.joy p).button) ∧
      (s.mode p = .keypad → v.getLsbD 7 = keypadColumn s.io s.input p .c2) ∧
      (s.mode p = .paddle → v.getLsbD 7 = true) := by
  obtain ⟨v, n, e, hv⟩ := readCycle_topBit (line := fun o => trigLine o p) hl (opened_trigLine addr .rd s p)
  refine ⟨v, n, e, fun hm => hv.trans ?_, fun hm => hv.trans ?_, fun hm => hv.trans ?_⟩
  all_goals simp only [trigLine, hm]

end

end Sys2Proof.Machine

namespace Sys2Proof.Proofs

open Sys2Proof Sys2Proof.Machine Sys2Proof.Spec

/-- Settles O17: each register drives its latches, and its read only draws. -/
theorem collisionReads : Obligations.CollisionReads := by
  intro addr s hl
  refine ⟨?_, readCycle_topBit (line := fun o => o.tia.cx.blpf) hl
    (congrArg (fun t => t.cx.blpf) (opened_frame addr .rd s).tia)⟩
  simp only [List.forall_mem_cons]
  exact ⟨readCycle_twoBits Collisions.m0p1 Collisions.m0p0 hl, readCycle_twoBits Collisions.m1p0 Collisions.m1p1 hl,
    readCycle_twoBits Collisions.p0pf Collisions.p0bl hl, readCycle_twoBits Collisions.p1pf Collisions.p1bl hl,
    readCycle_twoBits Collisions.m0pf Collisions.m0bl hl, readCycle_twoBits Collisions.m1pf Collisions.m1bl hl,
    readCycle_twoBits Collisions.p0p1 Collisions.m0m1 hl, nofun⟩

/-- Settles O18: the lines of the four paddles and of the two triggers, each by its port's mode. -/
theorem inputLineReads : Obligations.InputLineReads := by
  intro addr s hl
  simp only [List.forall_mem_cons]
  exact ⟨⟨readCycle_readPot .pot0 hl, readCycle_readPot .pot1 hl, readCycle_readPot .pot2 hl,
    readCycle_readPot .pot3 hl, nofun⟩, readCycle_readTrig .port0 hl, readCycle_readTrig .port1 hl, nofun⟩

end Sys2Proof.Proofs
end

section
/-! The colour clock and the cycle (R320 to R343, R443): where a tick moves the beam and the objects, which pixels an
object sets, and what a line of cycles does. -/

namespace Sys2Proof.Machine

/-! ## Distances -/

theorem emod_cast (a : Int) {n : Nat} (h : 0 < n) : (emod a n : Int) = a % n :=
  Int.toNat_of_nonneg (Int.emod_nonneg a (by omega))

/-- A window's width, on the distance itself (R323, R328). -/
theorem emod_lt_widthOf_iff (a : Int) (size : BitVec 2) :
    emod a Config.visibleClocks < widthOf size ↔ a % 160 < 2 ^ size.toNat := by
  rw [← Int.ofNat_lt, emod_cast a (by decide), widthOf, Int.natCast_pow]
  rfl

theorem copyScale_pos (nusiz : BitVec 3) : 0 < copyScale nusiz := by
  revert nusiz
  decide

/-- The clocks per shape pixel of each repeat mode, as a distance (R326). -/
theorem copyScale_cast (nusiz : BitVec 3) :
    (copyScale nusiz : Int) = if nusiz = 5 then 2 else if nusiz = 7 then 4 else 1 := by
  revert nusiz
  decide

/-- The middle of a player's first copy, as a distance from its left end (R329). -/
theorem copyMiddle_cast (nusiz : BitVec 3) :
    4 * (copyScale nusiz : Int) = if nusiz = 5 then 8 else if nusiz = 7 then 16 else 4 := by
  revert nusiz
  decide

/-! ## The beam (R338 to R340, R342) -/

theorem tick_pfToLoad (fmt : TvFormat) (t : Tia) : (t.tick fmt).pfToLoad = t.pfToLoad := by rw [tick_eq]

theorem tick_pfActive (fmt : TvFormat) (t : Tia) :
    (t.tick fmt).pfActive = if t.x % 4 = 3 then t.pfToLoad else t.pfActive := by
  have h : emod t.x 4 = 3 ↔ t.x % 4 = 3 := by
    unfold emod
    omega
  simp only [tick_eq, h]

/-- A tick within a line moves the beam and changes nothing of the line's own state. -/
theorem tick_within_line (fmt : TvFormat) {t : Tia} (h : t.x ≠ 159) :
    (t.tick fmt).x = t.x + 1 ∧ (t.tick fmt).y = t.y ∧ (t.tick fmt).waitHBlank = t.waitHBlank ∧
      (t.tick fmt).hmovePending = t.hmovePending ∧ (t.tick fmt).hmoveLate = t.hmoveLate ∧
      (t.tick fmt).comb = t.comb := by
  have hl : t.lastClock = false := decide_eq_false h
  simp [tick_eq, hl]

/-- The last tick of a line wraps, ends the stall and consumes the motion request. -/
theorem tick_ends_line (fmt : TvFormat) {t : Tia} (h : t.x = 159) :
    (t.tick fmt).x = -68 ∧ (t.tick fmt).y = min (t.y + 1) 320 ∧ (t.tick fmt).waitHBlank = false ∧
      (t.tick fmt).hmovePending = false ∧ (t.tick fmt).hmoveLate = false ∧
      (t.tick fmt).comb = (t.hmovePending && t.hmoveLate) := by
  have hl : t.lastClock = true := decide_eq_true h
  simp [tick_eq, hl, Config.yMax]

/-! ## The objects' positions (R329, R341) -/

theorem movedPos_cast (pos : Nat) (hm : BitVec 4) (extra : Nat) :
    (movedPos pos hm extra : Int) = ((pos : Int) - hm.toInt - extra) % 160 := emod_cast _ (by decide)

theorem motionExtra_cast (t : Tia) : (motionExtra t : Int) = if t.hmoveLate then 8 else 0 := by
  unfold motionExtra
  split <;> rfl

theorem advancedPos_cast (t : Tia) (pos : Nat) (hm : BitVec 4) : (advancedPos t pos hm : Int) =
    if t.x = 159 ∧ t.hmovePending = true then ((pos : Int) - hm.toInt - (if t.hmoveLate then 8 else 0)) % 160
    else pos := by
  simp only [advancedPos, Tia.lastClock, Bool.and_eq_true, decide_eq_true_eq, apply_ite (Nat.cast (R := Int)),
    movedPos_cast, motionExtra_cast]

theorem lockedPos_cast (m : Missile) (p : Player) : (lockedPos m p : Int) =
    if m.resmp then ((p.pos : Int) + (if p.nusiz = 5 then 8 else if p.nusiz = 7 then 16 else 4)) % 160
    else m.pos := by
  unfold lockedPos
  split
  · rw [emod_cast _ (by decide), copyMiddle_cast]
    rfl
  · rfl

/-! ## The objects' bits (R322 to R328) -/

/-- A column of the left half (R322). -/
theorem pfBit_left (t : Tia) {x : Int} {k : Nat} (hk : k < 20) (hx : x / 4 = k) :
    pfBit t x = t.pfActive.getLsbD k := by
  have hc : (x / 4).toNat = k := by omega
  simp only [pfBit, hc, hk, if_true]

/-- A column of the right half, reflected or repeated (R322). -/
theorem pfBit_right (t : Tia) {x : Int} {k : Nat} (hk : k < 20) (hx : x / 4 = 20 + k) :
    pfBit t x = if t.pfReflect then t.pfActive.getLsbD (19 - k) else t.pfActive.getLsbD k := by
  have hc : (x / 4).toNat = 20 + k := by omega
  have hr : ¬ 20 + k < 20 := by omega
  have hm : 39 - (20 + k) = 19 - k := by omega
  simp only [pfBit, hc, hr, if_false, hm, Nat.add_sub_cancel_left]

theorem ballBit_iff (b : Ball) (x : Int) : ballBit b x = true ↔
    (if b.vdel then b.enOld else b.enNew) = true ∧ (x - b.pos) % 160 < 2 ^ b.size.toNat := by
  simp only [ballBit, Bool.and_eq_true, decide_eq_true_eq, emod_lt_widthOf_iff]

theorem missileBit_iff (m : Missile) (nusiz : BitVec 3) (x : Int) : missileBit m nusiz x = true ↔
    m.enabled = true ∧ m.resmp = false ∧ ∃ o ∈ copyOffsets nusiz, (x - m.pos - o) % 160 < 2 ^ m.size.toNat := by
  simp only [missileBit, Bool.and_eq_true, Bool.not_eq_true', List.any_eq_true, decide_eq_true_eq,
    emod_lt_widthOf_iff, and_assoc]

theorem shapePixel_eq (p : Player) (j : Nat) :
    shapePixel p j = (if p.vdel then p.grpOld else p.grpNew).getLsbD (if p.refl then j else 7 - j) := by
  unfold shapePixel bit
  cases p.refl <;> rfl

/-- A copy shows the shape pixel its distance falls on (R324). -/
theorem copyBit_iff (p : Player) (x o : Int) : copyBit p x o = true ↔
    ∃ j : Nat, j < 8 ∧ (x - p.pos - o) % 160 / copyScale p.nusiz = j ∧ shapePixel p j = true := by
  have hwindow (dd : Nat) : dd < 8 * copyScale p.nusiz ↔ dd / copyScale p.nusiz < 8 :=
    (Nat.div_lt_iff_lt_mul (copyScale_pos _)).symm
  have hpixel : (x - p.pos - o) % 160 / copyScale p.nusiz =
      (emod (x - p.pos - o) 160 / copyScale p.nusiz : Nat) := by
    rw [Int.natCast_ediv, emod_cast _ (by decide)]
    rfl
  simp only [copyBit, Config.visibleClocks_eq, Bool.and_eq_true, decide_eq_true_eq, hwindow, hpixel, Int.natCast_inj]
  exact ⟨fun ⟨hj, hs⟩ => ⟨_, hj, rfl, hs⟩, fun ⟨_, hj, rfl, hs⟩ => ⟨hj, hs⟩⟩

theorem playerBit_iff (p : Player) (x : Int) : playerBit p x = true ↔ ∃ o ∈ copyOffsets p.nusiz, ∃ j : Nat, j < 8 ∧
    (x - p.pos - o) % 160 / (if p.nusiz = 5 then 2 else if p.nusiz = 7 then 4 else 1) = j ∧
    (if p.vdel then p.grpOld else p.grpNew).getLsbD (if p.refl then j else 7 - j) = true := by
  simp only [playerBit, List.any_eq_true, copyBit_iff, shapePixel_eq, copyScale_cast]

/-! ## A cycle's ticks, and a line of cycles (R343, R443) -/

theorem mapperTick_answer (r : Reply) (s : State) : mapperTick (s.answer r) = (mapperTick s).answer r := rfl

theorem tiaTick_answer (r : Reply) (s : State) : tiaTick (s.answer r) = (tiaTick s).answer r := rfl

theorem apuTick_answer (r : Reply) (s : State) : apuTick (s.answer r) = (apuTick s).answer r := rfl

theorem State.answer_answer (q r : Reply) (s : State) : (s.answer q).answer r = s.answer r := rfl

/-- A cycle's ticks answer nothing each, as operations of their own do, and so does the cycle (R443). -/
theorem cycleOnce_answered_ticks (s : State) : (cycleOnce s).answer .none =
    (apuTick ((tiaTick ((tiaTick ((tiaTick ((mapperTick ((timerTick (countCycle s)).answer .none)).answer
      .none)).answer .none)).answer .none)).answer .none)).answer .none := by
  simp only [mapperTick_answer, tiaTick_answer, apuTick_answer, State.answer_answer]
  rw [cycleOnce, tiaTicks_cycle]

theorem cycleOnce_pfToLoad (s : State) : (cycleOnce s).tia.pfToLoad = s.tia.pfToLoad := by
  simp only [cycleOnce_tia, tick_pfToLoad]

/-- A cycle that does not end the line moves the beam by three clocks. -/
theorem cycleOnce_within_line {s : State} (h : s.tia.x < 157) : (cycleOnce s).tia.x = s.tia.x + 3 ∧
    (cycleOnce s).tia.y = s.tia.y ∧ (cycleOnce s).tia.waitHBlank = s.tia.waitHBlank := by
  have h1 : s.tia.x ≠ 159 := by omega
  have h2 : s.tia.x + 1 ≠ 159 := by omega
  have h3 : s.tia.x + 1 + 1 ≠ 159 := by omega
  simp only [cycleOnce_tia, tick_x, tick_y, tick_waitHBlank, h1, h2, h3, if_false, and_true]
  omega

/-- The cycle whose third clock is the last of the line wraps, ends the stall and latches the playfield. -/
theorem cycleOnce_ends_line {s : State} (h : s.tia.x = 157) : (cycleOnce s).tia.x = -68 ∧
    (cycleOnce s).tia.y = min (s.tia.y + 1) 320 ∧ (cycleOnce s).tia.waitHBlank = false ∧
    (cycleOnce s).tia.pfActive = s.tia.pfToLoad := by
  simp [cycleOnce_tia, tick_x, tick_y, tick_waitHBlank, tick_pfActive, tick_pfToLoad, h, Config.yMax]

theorem cycleTimes_within_line (n : Nat) {s : State} (h : s.tia.x + 3 * n ≤ 157) :
    (cycleTimes n s).tia.x = s.tia.x + 3 * n ∧ (cycleTimes n s).tia.y = s.tia.y ∧
    (cycleTimes n s).tia.waitHBlank = s.tia.waitHBlank ∧ (cycleTimes n s).tia.pfToLoad = s.tia.pfToLoad := by
  induction n generalizing s with
  | zero => simp
  | succ n ih =>
    obtain ⟨hx, hy, hw⟩ := cycleOnce_within_line (s := s) (by omega)
    obtain ⟨ihx, ihy, ihw, ihp⟩ := ih (s := cycleOnce s) (by omega)
    refine ⟨?_, ihy.trans hy, ihw.trans hw, ihp.trans (cycleOnce_pfToLoad s)⟩
    rw [cycleTimes_succ, ihx, hx]
    omega

theorem runCycles_tia (n : Nat) (s : State) : (runCycles n s).tia = (cycleTimes n s).tia := by
  rw [runCycles, sampleInput_eq, State.setIo_tia]

theorem runCycles_cycles (n : Nat) (s : State) : (runCycles n s).cycles = s.cycles + n := by
  rw [runCycles, sampleInput_eq, State.setIo_cycles, cycleTimes_cycles]

theorem cycleTimes_succ_last (n : Nat) (s : State) : cycleTimes (n + 1) s = cycleOnce (cycleTimes n s) :=
  cycleTimes_add n 1 s

/-- From the start of a line 76 cycles are 75 within it and the one that ends it. -/
theorem cycleTimes_line {s : State} (h : s.tia.x = -68) : (cycleTimes 76 s).tia.x = -68 ∧
    (cycleTimes 76 s).tia.y = min (s.tia.y + 1) 320 ∧ (cycleTimes 76 s).tia.waitHBlank = false ∧
    (cycleTimes 76 s).tia.pfActive = s.tia.pfToLoad := by
  obtain ⟨hx, hy, -, hp⟩ := cycleTimes_within_line 75 (s := s) (by omega)
  rw [cycleTimes_succ_last 75, ← hy, ← hp]
  exact cycleOnce_ends_line (by omega)

end Sys2Proof.Machine

namespace Sys2Proof.Proofs

open Sys2Proof Sys2Proof.Machine

/-- Settles O39: the beam within a line and at its end, and each position after the lock and the motion. -/
theorem tickBeamAndMotion : Obligations.TickBeamAndMotion := by
  refine ⟨?beam, ?motion⟩
  case beam =>
    rintro s u hl rfl
    refine ⟨_, exec_tiaTick_live hl, tick_within_line _, tick_ends_line _, tick_pfActive _ _, ?_⟩
    rw [tick_eq]
    and_intros
    all_goals rfl
  case motion =>
    rintro s u lock moved hl rfl rfl rfl
    refine ⟨_, exec_tiaTick_live hl, ?_⟩
    rw [State.answer_tia, State.setTia_tia, tick_eq]
    simp only [← lockedPos_cast]
    exact ⟨advancedPos_cast _ _ _, advancedPos_cast _ _ _, advancedPos_cast _ _ _, advancedPos_cast _ _ _,
      advancedPos_cast _ _ _⟩

/-- Settles O40: the windows and the columns of the objects' bits, on distances as integers. -/
theorem objectBits : Obligations.ObjectBits := fun t x _ _ =>
  ⟨rfl, rfl, rfl, rfl, rfl, rfl, fun _ hk => ⟨pfBit_left t hk, pfBit_right t hk⟩, fun b => ballBit_iff b x,
    fun m n => missileBit_iff m n x, fun p => playerBit_iff p x, rfl, rfl, rfl, rfl, rfl, rfl, rfl, rfl⟩

/-- Settles O47: each tick of a cycle as a row of its own, and a line as 75 cycles within it and one that ends it. -/
theorem cycleOrderAndLine : Obligations.CycleOrderAndLine := by
  refine ⟨?order, ?line⟩
  case order =>
    intro s hl
    refine ⟨_, _, _, _, _, _, whileLive_live hl, whileLive_live hl, whileLive_live hl, whileLive_live hl,
      whileLive_live hl, whileLive_live hl, ?_, rfl⟩
    exact (whileLive_live hl).trans (congrArg _ (cycleOnce_answered_ticks s))
  case line =>
    intro s hl hx
    obtain ⟨hx', hy, hw, hp⟩ := cycleTimes_line hx
    refine ⟨_, execRun_live 76 hl, ?_⟩
    rw [State.answer_tia, State.answer_cycles, runCycles_tia, runCycles_cycles]
    exact ⟨hx', hy, hw, rfl, hp⟩

end Sys2Proof.Proofs
end

section
/-! The ports, the interval timer and the controllers (R361 to R387, R445, R446), and the host's queries (R380, R460 to
R463). -/

namespace Sys2Proof.Machine

/-! ## Pins (R381, R383) -/

/-- A port's nibble of port A, each bit where the port is wired. -/
theorem pinsA_getLsbD (s : State) (p : Port) {r : Nat} (hr : r < 4) :
    (pinsA s).getLsbD (rowBit p r) = [pin0 s p, pin1 s p, pin2 s p, pin3 s p][r] := by
  cases p with
  | port0 =>
    rw [pinsA, rowBit, byteOfBits_getLsbD _ _ _ _ _ _ _ _ _ (by omega)]
    match r, hr with
    | 0, _ | 1, _ | 2, _ | 3, _ => rfl
  | port1 =>
    rw [pinsA, rowBit, byteOfBits_getLsbD _ _ _ _ _ _ _ _ _ (by omega)]
    match r, hr with
    | 0, _ | 1, _ | 2, _ | 3, _ => rfl

section
variable {s : State} {p : Port}

theorem pinsA_joystick (h : s.mode p = .joystick) :
    (pinsA s).getLsbD (rowBit p 3) = (!(s.input.joy p).right) ∧
    (pinsA s).getLsbD (rowBit p 2) = (!(s.input.joy p).left) ∧
    (pinsA s).getLsbD (rowBit p 1) = (!(s.input.joy p).down) ∧
    (pinsA s).getLsbD (rowBit p 0) = (!(s.input.joy p).up) := by
  and_intros
  all_goals simp [pinsA_getLsbD, pin3, pin2, pin1, pin0, h]

theorem pinsA_paddle (h : s.mode p = .paddle) :
    (pinsA s).getLsbD (rowBit p 3) = (!(s.input.paddleA p).button) ∧
    (pinsA s).getLsbD (rowBit p 2) = (!(s.input.paddleB p).button) ∧
    (pinsA s).getLsbD (rowBit p 1) = true ∧ (pinsA s).getLsbD (rowBit p 0) = true := by
  and_intros
  all_goals simp [pinsA_getLsbD, pin3, pin2, pin1, pin0, h]

theorem pinsA_keypad (h : s.mode p = .keypad) {r : Nat} (hr : r < 4) : (pinsA s).getLsbD (rowBit p r) = true := by
  have h1 : [pin0 s p, pin1 s p, pin2 s p, pin3 s p] = List.replicate 4 true := by
    simp [pin3, pin2, pin1, pin0, h, List.replicate]
  simp only [pinsA_getLsbD s p hr, h1, List.getElem_replicate]

end

/-- A column is low exactly when a selected row has its key of that column pressed (R386). -/
theorem keypadColumn_eq_false_iff (io : Io) (input : Input) (p : Port) (col : Column) :
    keypadColumn io input p col = false ↔ ∃ r, r < 4 ∧ io.swacnt.getLsbD (rowBit p r) = true ∧
      io.swchaOut.getLsbD (rowBit p r) = false ∧ ((input.keypad p).row r).key col = true := by
  have hmem (r : Nat) : r ∈ [0, 1, 2, 3] ↔ r < 4 := List.mem_range (n := 4)
  simp only [keypadColumn, Io.rowSelected, bit, Bool.not_eq_false', List.any_eq_true, hmem, Bool.and_eq_true,
    Bool.not_eq_true', and_assoc]

/-! ## Port registers (R361, R365) -/

theorem portRead_getLsbD (out ddr pins : Byte) {k : Nat} (hk : k < 8) :
    (portRead out ddr pins).getLsbD k = if ddr.getLsbD k then out.getLsbD k else pins.getLsbD k := by
  rw [portRead, BitVec.getLsbD_or, BitVec.getLsbD_and, BitVec.getLsbD_and, BitVec.getLsbD_not]
  cases ddr.getLsbD k <;> simp [hk]

theorem opened_pinsA (addr : Addr) (acc : Access) (s : State) : pinsA (opened addr acc s) = pinsA s := by
  simp only [pinsA, pin3, pin2, pin1, pin0, opened_mode, (opened_frame addr acc s).input]

/-! ## The timer's parts (R371, R376, R377) -/

namespace Timer
variable {t : Timer}

theorem decrement_of_zero (h : t.intim = 0) :
    t.decrement = { t with intim := 0xFF, ufIntim := true, ufStatus := true } := if_pos h

theorem decrement_of_ne (h : t.intim ≠ 0) : t.decrement = { t with intim := t.intim - 1 } := if_neg h

/-- A write, its own decrement included: the reload value 0 underflows at once. -/
theorem write_eq (i : Divider) (v : Byte) (t : Timer) :
    t.write i v = if v = 0 then ⟨0xFF, i, 1, true, true⟩ else ⟨v - 1, i, i.cycles, false, false⟩ := by
  unfold write decrement
  split <;> rfl

theorem tick_of_one_lt (h : 1 < t.sub) : t.tick = { t with sub := t.sub - 1 } := if_neg (by omega)

/-- What the prescaler holds before a decrement that starts it again is lost. -/
theorem decrement_reload_of_sub (n : Nat) (t : Timer) :
    (decrement { t with sub := n }).reload = t.decrement.reload := by
  unfold decrement
  split <;> rfl

/-- At the end of the prescaler a tick decrements and starts the prescaler again. -/
theorem tick_of_sub_one (h : t.sub = 1) : t.tick = t.decrement.reload := by
  rw [tick, if_pos (by omega), decrement_reload_of_sub]

theorem tick_interval (t : Timer) : t.tick.interval = t.interval := by
  unfold tick decrement
  split
  · split <;> rfl
  · rfl

/-- Before the prescaler's end only the prescaler moves. -/
theorem times_tick_of_lt {k : Nat} (h : k < t.sub) : Spec.times tick k t = { t with sub := t.sub - k } := by
  induction k generalizing t with
  | zero => rfl
  | succ k ih =>
    have hk : k < t.sub - 1 := by omega
    rw [Spec.times, tick_of_one_lt (by omega), ih hk, Nat.sub_sub, Nat.add_comm 1]

/-- The tick that ends the prescaler decrements. -/
theorem times_tick_sub (h : 0 < t.sub) : Spec.times tick t.sub t = t.decrement.reload := by
  calc Spec.times tick t.sub t
    _ = Spec.times tick (t.sub - 1 + 1) t := by rw [Nat.sub_add_cancel h]
    _ = tick { t with sub := t.sub - (t.sub - 1) } := by
      rw [times_add, times_tick_of_lt (Nat.sub_lt h Nat.one_pos), Spec.times, Spec.times]
    _ = t.decrement.reload := by rw [tick_of_sub_one (Nat.sub_sub_self h), decrement_reload_of_sub]

end Timer

theorem Divider.cycles_pos (i : Divider) : 0 < i.cycles := by cases i <;> decide

/-- The row of a timer write, by its divider (R371 to R374). -/
theorem writeCycle_wrTimer (i : Divider) (addr : Addr) (d : Byte) {s : State} (hl : s.fatal = none) :
    writeCycle addr d (wrTimer i d) s = .next (Spec.afterWrite addr { opened addr (.wr d) s with
      timer := if d = 0 then ⟨0xFF, i, 1, true, true⟩ else ⟨d - 1, i, i.cycles, false, false⟩ }) := by
  rw [← Timer.write_eq]
  exact writeCycle_live hl

/-! ## Sampling (R387, R445, R446) -/

theorem sampledLatch_eq (s : State) (p : Port) : sampledLatch s p =
    if s.tia.vblankLatch = true ∧ s.mode p = .joystick ∧ (s.input.joy p).button = true then false
    else s.io.latch p := by
  simp only [sampledLatch, Bool.and_eq_true, decide_eq_true_eq, and_assoc]

/-- A paddle's flag by its port's mode and the dump; once true it stays so until the next dump. -/
theorem updatedCharge_cases (s : State) (k : Pot) :
    (s.mode k.port ≠ .paddle → updatedCharge s k = s.io.charged k) ∧
    (s.mode k.port = .paddle → s.tia.vblankDump = true → updatedCharge s k = false) ∧
    (s.mode k.port = .paddle → s.tia.vblankDump = false → updatedCharge s k =
      (s.io.charged k || decide (paddleThreshold (s.input.paddle k).pos ≤ (elapsedLines s : Int)))) := by
  refine ⟨fun hm => if_neg hm, fun hm hd => ?_, fun hm hd => ?_⟩
  · simp [updatedCharge, hm, hd]
  · by_cases ht : paddleThreshold (s.input.paddle k).pos ≤ (elapsedLines s : Int) <;>
      simp [updatedCharge, hm, hd, ht]

/-! ## The host (R380, R462) -/

/-- A sound read takes the largest number of whole frames that is asked for and available. -/
theorem soundCount_spec (n : Nat) (s : State) : soundCount n s ≤ n ∧ soundCount n s ≤ s.apu.buf.length ∧
    soundCount n s % 4 = 0 ∧ (n < soundCount n s + 4 ∨ s.apu.buf.length < soundCount n s + 4) := by
  unfold soundCount
  omega

theorem Input.ok_iff (i : Input) :
    i.ok = true ↔ ∀ p ∈ [i.paddle0, i.paddle1, i.paddle2, i.paddle3], -135 ≤ p.pos ∧ p.pos ≤ 135 := by
  simp [Input.ok, Paddle.ok, and_assoc]

theorem execSetInput_of_ok {i : Input} {s : State} (hi : i.ok = true) (hl : s.fatal = none) :
    execSetInput i s = .next { s with input := i, reply := .none } :=
  (if_pos hi).trans (whileLive_live hl)

theorem execSetInput_of_not_ok {i : Input} (hi : ¬ i.ok = true) (s : State) :
    execSetInput i s = .refused .paddleOutOfRange := if_neg hi

end Sys2Proof.Machine

namespace Sys2Proof.Proofs

open Sys2Proof Sys2Proof.Machine Sys2Proof.Spec

/-- Settles O19: the nibble of each port by its mode, and a keypad column by its rows. -/
theorem inputPins : Obligations.InputPins := by
  refine ⟨fun _ h => pinsA_joystick (p := .port0) h, fun _ h => pinsA_joystick (p := .port1) h,
    fun _ h => pinsA_paddle (p := .port0) h, fun _ h => pinsA_paddle (p := .port1) h, fun s k h h4 h8 => ?upper,
    fun _ _ h h4 => pinsA_keypad (p := .port1) h h4, fun i => ?console,
    fun io input => keypadColumn_eq_false_iff io input .port0,
    fun io input => keypadColumn_eq_false_iff io input .port1⟩
  case upper =>
    have hk : rowBit .port0 (k - 4) = k := Nat.add_sub_cancel' h4
    rw [← hk]
    exact pinsA_keypad (p := .port0) h (by omega)
  case console =>
    and_intros
    all_goals exact byteOfBits_getLsbD _ _ _ _ _ _ _ _ _ (by decide)

/-- Settles O20: a port read merges the latch and the pins, which detection does not change. -/
theorem portRows : Obligations.PortRows := by
  refine ⟨?reads, ?writes⟩
  case reads =>
    rintro addr s o hl rfl
    rw [← opened_pinsA addr .rd s, ← (opened_frame addr .rd s).io, ← (opened_frame addr .rd s).input]
    exact ⟨⟨_, readCycle_live hl, fun _ => portRead_getLsbD _ _ _⟩,
      ⟨_, readCycle_live hl, fun _ => portRead_getLsbD _ _ _⟩, readCycle_live hl, readCycle_live hl⟩
  case writes =>
    rintro addr d s o hl rfl
    exact ⟨writeCycle_live hl, writeCycle_live hl, writeCycle_live hl, writeCycle_live hl⟩

/-- Settles O21: the two reads consume their flags, and the four writes differ in the divider only. -/
theorem timerRows : Obligations.TimerRows := by
  refine ⟨?reads, ?writes, fun _ _ _ hl => writeCycle_live hl⟩
  case reads =>
    rintro addr s o hl rfl
    rw [← (opened_frame addr .rd s).timer]
    exact ⟨readCycle_live hl, readCycle_live hl⟩
  case writes =>
    simp only [List.forall_mem_cons]
    exact ⟨fun addr d _ => writeCycle_wrTimer .d1 addr d, fun addr d _ => writeCycle_wrTimer .d8 addr d,
      fun addr d _ => writeCycle_wrTimer .d64 addr d, fun addr d _ => writeCycle_wrTimer .d1024 addr d, nofun⟩

/-- Settles O22: one tick by the prescaler and the counter, and the ticks of one divider after a write. -/
theorem timerTick : Obligations.TimerTick := by
  refine ⟨fun s hl => ⟨s.timer.tick, whileLive_live hl, s.timer.tick_interval, Timer.tick_of_one_lt,
    fun h1 h0 => ?underflow, fun h1 h0 => ?down⟩, fun t i v hv => ?written⟩
  case underflow =>
    rw [Timer.tick_of_sub_one h1, Timer.decrement_of_zero h0]
    exact ⟨rfl, rfl, rfl, rfl⟩
  case down =>
    rw [Timer.tick_of_sub_one h1, Timer.decrement_of_ne h0]
    exact ⟨rfl, rfl, rfl, rfl⟩
  case written =>
    have hlast : times Timer.tick i.cycles ⟨v - 1, i, i.cycles, false, false⟩ =
        (Timer.decrement ⟨v - 1, i, i.cycles, false, false⟩).reload :=
      Timer.times_tick_sub (t := ⟨v - 1, i, i.cycles, false, false⟩) i.cycles_pos
    rw [Timer.write_eq, if_neg hv]
    refine ⟨fun k hk => ?_, ?_⟩
    · rw [Timer.times_tick_of_lt hk]
      exact ⟨rfl, rfl⟩
    · rw [hlast]
      by_cases h1 : v = 1
      · subst h1
        exact ⟨rfl, rfl, rfl⟩
      · have hne : v - 1 ≠ 0 := by bv_omega
        have htwo : v - 1 - 1 = v - 2 := by bv_omega
        rw [Timer.decrement_of_ne hne, if_neg h1, decide_eq_false h1]
        exact ⟨htwo, rfl, rfl⟩

/-- Settles O51: the two latches and the four charge flags of a sample. -/
theorem inputSample : Obligations.InputSample := by
  intro s hl
  refine ⟨(sampleInput s).io, whileLive_live hl, rfl, rfl, rfl, rfl, rfl, ?_, ?_⟩
  all_goals simp only [List.forall_mem_cons]
  · exact ⟨sampledLatch_eq s .port0, sampledLatch_eq s .port1, nofun⟩
  · exact ⟨updatedCharge_cases s .pot0, updatedCharge_cases s .pot1, updatedCharge_cases s .pot2,
      updatedCharge_cases s .pot3, nofun⟩

/-- Settles O52: the three queries, and `SETINPUT` by the range of the paddles. -/
theorem hostQueries : Obligations.HostQueries := by
  refine fun s => ⟨rfl, rfl, fun n => ?sound, fun i hi => execSetInput_of_not_ok (fun hok => ?range) s,
    fun i hl hi => execSetInput_of_ok ((Input.ok_iff i).2 hi) hl⟩
  case sound =>
    obtain ⟨hn, hlen, h4, hmost⟩ := soundCount_spec n s
    exact ⟨soundCount n s, hn, hlen, h4, hmost, rfl⟩
  case range =>
    obtain ⟨p, hp, hout⟩ := hi
    have hin := (Input.ok_iff i).1 hok p hp
    omega

end Sys2Proof.Proofs
end

section
/-! The sound unit (R400 to R425): the mixer's tick, a channel's clock, and the periods of the shift registers. -/

namespace Sys2Proof.Machine

/-! ## The mixer (R400, R415, R416, R420) -/

theorem sampleDiv_eq (f : TvFormat) : Config.sampleDiv f = match f with | .ntsc => 27 | .pal => 26 := by
  cases f <;> rfl

theorem extractLsb'_ofNat_16 (v : Nat) {i : Nat} (hi : i ≤ 8) :
    (BitVec.ofNat 16 v).extractLsb' i 8 = BitVec.ofNat 8 (v >>> i) := by
  apply BitVec.eq_of_getLsbD_eq
  intro k hk
  have h16 : i + k < 16 := by omega
  rw [BitVec.getLsbD_extractLsb', BitVec.getLsbD_ofNat, BitVec.getLsbD_ofNat, Nat.testBit_shiftRight,
    decide_eq_true hk, decide_eq_true h16, Bool.true_and]

/-- A frame is the sample's sixteen bits twice, low byte first. -/
theorem frameBytes_eq (v : Nat) : frameBytes v =
    [(BitVec.ofNat 16 v).extractLsb' 0 8, (BitVec.ofNat 16 v).extractLsb' 8 8,
      (BitVec.ofNat 16 v).extractLsb' 0 8, (BitVec.ofNat 16 v).extractLsb' 8 8] := by
  rw [extractLsb'_ofNat_16 v (Nat.zero_le 8), extractLsb'_ofNat_16 v (Nat.le_refl 8), Nat.shiftRight_eq_div_pow v 8]
  rfl

namespace Apu

/-- A frame changes the buffer alone, and only where four bytes are free. -/
theorem pushFrame_eq (v : Nat) (a : Apu) : a.pushFrame v =
    { a with buf := if a.buf.length ≤ 16380 then a.buf ++ frameBytes v else a.buf } := by
  by_cases h : a.buf.length ≤ 16380
  · rw [if_pos h]
    exact if_pos (Nat.add_le_add_right h 4)
  · rw [if_neg h]
    exact if_neg fun hroom => h (Nat.le_of_add_le_add_right hroom)

theorem emit_eq (a : Apu) : a.emit = { a with
    acc := 0, n := 0
    buf := if a.buf.length ≤ 16380 then a.buf ++ frameBytes (sample a.acc a.n) else a.buf } := by
  rw [emit, pushFrame_eq]

theorem prescale_of_last {a : Apu} (h : a.clk = 37) :
    a.prescale = { a with clk := 0, ch0 := a.ch0.clock, ch1 := a.ch1.clock } :=
  if_pos (congrArg (· + 1) h)

theorem prescale_of_ne {a : Apu} (h : a.clk ≠ 37) : a.prescale = { a with clk := a.clk + 1 } :=
  if_neg fun h38 => h (Nat.succ.inj h38)

/-- The prescaler leaves the window and the buffer as they are. -/
theorem prescale_frame (a : Apu) : a.prescale.acc = a.acc ∧ a.prescale.n = a.n ∧ a.prescale.buf = a.buf := by
  unfold prescale
  split <;> exact ⟨rfl, rfl, rfl⟩

theorem accumulate_acc (a : Apu) : a.accumulate.acc = a.acc + a.ch0.level + a.ch1.level :=
  (Nat.add_assoc ..).symm

variable {f : TvFormat} {n : Nat}

theorem tick_of_sample (h : n % Config.sampleDiv f = 0) (a : Apu) : a.tick f n = a.prescale.accumulate.emit := if_pos h

theorem tick_of_no_sample (h : n % Config.sampleDiv f ≠ 0) (a : Apu) : a.tick f n = a.prescale.accumulate := if_neg h

/-- The prescaler and the channels are after a tick as `prescale` leaves them. -/
theorem tick_channels (f : TvFormat) (n : Nat) (a : Apu) : (a.tick f n).clk = a.prescale.clk ∧
    (a.tick f n).ch0 = a.prescale.ch0 ∧ (a.tick f n).ch1 = a.prescale.ch1 := by
  by_cases h : n % Config.sampleDiv f = 0
  · rw [tick_of_sample h, emit_eq]
    exact ⟨rfl, rfl, rfl⟩
  · rw [tick_of_no_sample h]
    exact ⟨rfl, rfl, rfl⟩

end Apu

/-! ## A channel's clock (R401, R402, R406, R410) -/

theorem prescaleOf_eq (a : BitVec 4) : prescaleOf a = if a = 0x2 then 15 else if 0xC ≤ a then 3 else 1 := by
  revert a
  decide

theorem kindOf_eq (a : BitVec 4) : kindOf a =
    if a = 0x0 ∨ a = 0xB then .const else if a = 0x1 ∨ a = 0x2 then .poly4 else if a = 0x3 then .poly54
    else if a = 0x4 ∨ a = 0x5 ∨ a = 0xC ∨ a = 0xD then .toggle else if a = 0x6 ∨ a = 0xA ∨ a = 0xE then .div31
    else if a = 0x8 then .poly9 else .poly5 := by
  revert a
  decide

namespace Channel
variable {c : Channel}

/-- The generator's step by the selector. -/
theorem generate_eq (c : Channel) : c.generate =
    if c.audc = 0x0 ∨ c.audc = 0xB then { c with out := true }
    else if c.audc = 0x1 ∨ c.audc = 0x2 then { c with poly4 := step4 c.poly4, out := (step4 c.poly4).getLsbD 0 }
    else if c.audc = 0x3 then
      if (step5 c.poly5).getLsbD 0 then
        { c with poly5 := step5 c.poly5, poly4 := step4 c.poly4, out := (step4 c.poly4).getLsbD 0 }
      else { c with poly5 := step5 c.poly5, out := c.poly4.getLsbD 0 }
    else if c.audc = 0x4 ∨ c.audc = 0x5 ∨ c.audc = 0xC ∨ c.audc = 0xD then { c with out := !c.out }
    else if c.audc = 0x6 ∨ c.audc = 0xA ∨ c.audc = 0xE then
      { c with div31 := (c.div31 + 1) % 31, out := decide ((c.div31 + 1) % 31 < 13) }
    else if c.audc = 0x8 then { c with poly9 := step9 c.poly9, out := (step9 c.poly9).getLsbD 0 }
    else { c with poly5 := step5 c.poly5, out := (step5 c.poly5).getLsbD 0 } := by
  unfold generate
  rw [kindOf_eq]
  split_ifs <;> rfl

/-- A step of the generator leaves what the program wrote: selector, frequency and volume. -/
theorem generate_frame (c : Channel) :
    c.generate.audc = c.audc ∧ c.generate.audf = c.audf ∧ c.generate.audv = c.audv := by
  unfold generate
  split <;> exact ⟨rfl, rfl, rfl⟩

theorem clock_of_lt (h : c.divCount < c.audf) : c.clock = { c with divCount := c.divCount + 1 } :=
  if_neg (BitVec.not_le.2 h)

theorem clock_of_sub_lt (hd : c.audf ≤ c.divCount) (h : c.sub + 1 < prescaleOf c.audc) :
    c.clock = { c with divCount := 0, sub := c.sub + 1 } :=
  (if_pos hd).trans (if_pos h)

theorem clock_of_generate (hd : c.audf ≤ c.divCount) (h : prescaleOf c.audc ≤ c.sub + 1) :
    c.clock = generate { c with divCount := 0, sub := 0 } :=
  (if_pos hd).trans (if_neg (Nat.not_lt.2 h))

theorem clock_frame (c : Channel) : c.clock.audc = c.audc ∧ c.clock.audf = c.audf ∧ c.clock.audv = c.audv := by
  by_cases hd : c.audf ≤ c.divCount
  · by_cases hs : c.sub + 1 < prescaleOf c.audc
    · rw [clock_of_sub_lt hd hs]
      exact ⟨rfl, rfl, rfl⟩
    · rw [clock_of_generate hd (Nat.not_lt.1 hs)]
      exact generate_frame _
  · rw [clock_of_lt (BitVec.not_le.1 hd)]
    exact ⟨rfl, rfl, rfl⟩

/-- Selector 1 at frequency 0 steps the four-bit register at every clock. -/
theorem clock_of_noise (hc : c.audc = 0x1) (hf : c.audf = 0) : c.clock =
    { c with divCount := 0, sub := 0, poly4 := step4 c.poly4, out := (step4 c.poly4).getLsbD 0 } := by
  have hd : c.audf ≤ c.divCount := by
    rw [hf]
    exact Nat.zero_le _
  have hs : prescaleOf c.audc ≤ c.sub + 1 := by
    rw [hc]
    exact Nat.le_add_left 1 c.sub
  have hk : kindOf c.audc = .poly4 := by
    rw [hc]
    rfl
  rw [clock_of_generate hd hs]
  unfold generate
  rw [hk]

theorem times_clock_of_noise (hc : c.audc = 0x1) (hf : c.audf = 0) (k : Nat) :
    (Spec.times clock (k + 1) c).out = (Spec.times step4 (k + 1) c.poly4).getLsbD 0 := by
  induction k generalizing c with
  | zero => exact congrArg out (clock_of_noise hc hf)
  | succ k ih =>
    obtain ⟨hc', hf', -⟩ := clock_frame c
    have hp : c.clock.poly4 = step4 c.poly4 := congrArg poly4 (clock_of_noise hc hf)
    rw [Spec.times, ih (hc'.trans hc) (hf'.trans hf), hp]
    rfl

end Channel

/-! ## The shift registers (R405, R425) -/

/-- The shape the three registers share: a shift to the right with a bit of its own at the top. -/
theorem cons_extractLsb'_getLsbD {w : Nat} (b : Bool) (p : BitVec (w + 1)) (k : Nat) :
    (BitVec.cons b (p.extractLsb' 1 w)).getLsbD k = if k = w then b else p.getLsbD (k + 1) := by
  rw [BitVec.getLsbD_cons, BitVec.getLsbD_extractLsb', Nat.add_comm 1 k]
  by_cases hw : k < w
  · rw [decide_eq_true hw, Bool.true_and]
  · by_cases hk : k = w
    · rw [if_pos hk, if_pos hk]
    · rw [decide_eq_false hw, Bool.false_and, BitVec.getLsbD_of_ge p (k + 1) (by omega)]

/-- The same step in word operations, which `simp` evaluates on literals. -/
theorem cons_extractLsb'_eq {w : Nat} (p : BitVec (w + 1)) (t : Nat) :
    BitVec.cons (p.getLsbD 0 ^^ p.getLsbD t) (p.extractLsb' 1 w) = p >>> 1 ||| (p ^^^ p >>> t) <<< w := by
  apply BitVec.eq_of_getLsbD_eq
  intro k hk
  rw [cons_extractLsb'_getLsbD]
  by_cases hw : k = w
  · subst hw
    simp
  · have hlow : k < w := by omega
    simp [hw, hlow, Nat.add_comm 1 k]

theorem step4_eq (p : BitVec 4) : step4 p = p >>> 1 ||| (p ^^^ p >>> 1) <<< 3 := cons_extractLsb'_eq p 1

theorem step5_eq (p : BitVec 5) : step5 p = p >>> 1 ||| (p ^^^ p >>> 2) <<< 4 := cons_extractLsb'_eq p 2

theorem step9_eq (p : BitVec 9) : step9 p = p >>> 1 ||| (p ^^^ p >>> 4) <<< 8 := cons_extractLsb'_eq p 4

theorem times_eq_iterate {α : Type} (f : α → α) (n : Nat) (a : α) : Spec.times f n a = f^[n] a := by
  induction n generalizing a with
  | zero => rfl
  | succ n ih => exact ih (f a)

/-- What a step keeps different from `b` never becomes `b`. -/
theorem times_ne {α : Type} {f : α → α} {a b : α} (hf : ∀ x, x ≠ b → f x ≠ b) (ha : a ≠ b) (n : Nat) :
    Spec.times f n a ≠ b := by
  rw [times_eq_iterate]
  exact Function.Iterate.rec (· ≠ b) ha hf n

/-- A period that none of its proper divisors shares is the least one. -/
theorem times_eq_self_iff {α : Type} {f : α → α} {a : α} {p : Nat} (h0 : 0 < p) (hp : Spec.times f p a = a)
    (hmin : ∀ d ∈ p.properDivisors, Spec.times f d a ≠ a) (n : Nat) : Spec.times f n a = a ↔ n % p = 0 := by
  simp only [times_eq_iterate] at *
  have hdvd : Function.minimalPeriod f a ∣ p := Function.IsPeriodicPt.minimalPeriod_dvd hp
  have heq : Function.minimalPeriod f a = p := by
    by_contra hne
    have hlt : Function.minimalPeriod f a < p := lt_of_le_of_ne (Nat.le_of_dvd h0 hdvd) hne
    exact hmin _ (Nat.mem_properDivisors.2 ⟨hdvd, hlt⟩) Function.iterate_minimalPeriod
  rw [← Nat.dvd_iff_mod_eq_zero, ← heq]
  exact Function.isPeriodicPt_iff_minimalPeriod_dvd

theorem times_step4_15 : Spec.times step4 15 0xF = 0xF := by simp [Spec.times, step4_eq]

theorem times_step5_31 : Spec.times step5 31 0x1F = 0x1F := by simp [Spec.times, step5_eq]

theorem times_step4_eq_seed_iff (n : Nat) : Spec.times step4 n 0xF = 0xF ↔ n % 15 = 0 :=
  times_eq_self_iff (by decide) times_step4_15 (by decide) n

theorem times_step5_eq_seed_iff (n : Nat) : Spec.times step5 n 0x1F = 0x1F ↔ n % 31 = 0 :=
  times_eq_self_iff (by decide) times_step5_31 (by decide) n

/-- The nine-bit register after `73 * q` steps from its seed (`times_step9_73_mul`). -/
def step9Sample (q : Nat) : BitVec 9 := [0x1FF, 0x0D9, 0x086, 0x126, 0x05F, 0x1A0, 0x179, 0x1FF].getD q 0

theorem step9Sample_succ {q : Nat} (hq : q < 7) : step9Sample (q + 1) = Spec.times step9 73 (step9Sample q) := by
  interval_cases q
  all_goals simp [step9Sample, Spec.times, step9_eq]

theorem times_step9_73_mul {q : Nat} (hq : q ≤ 7) : Spec.times step9 (73 * q) 0x1FF = step9Sample q := by
  induction q with
  | zero => rfl
  | succ q ih => rw [Nat.mul_succ, times_add, ih (by omega), step9Sample_succ hq]

theorem times_step9_eq_seed_iff (n : Nat) : Spec.times step9 n 0x1FF = 0x1FF ↔ n % 511 = 0 := by
  refine times_eq_self_iff (by decide) (times_step9_73_mul (Nat.le_refl 7)) (fun d hd => ?_) n
  have h511 : Nat.properDivisors 511 = {1, 7, 73} := by decide
  rw [h511] at hd
  simp only [Finset.mem_insert, Finset.mem_singleton] at hd
  obtain rfl | rfl | rfl := hd
  · decide
  · decide
  · rw [times_step9_73_mul (q := 1) (by decide)]
    decide

/-- The four-bit noise of scenario D (R425); `times_step4_noise` ties it to the register. -/
def noiseBits : List Bool :=
  [true, true, true, false, false, false, true, false, false, true, true, false, true, false, true]

theorem step4_noiseBits {r : Nat} (hr : r < 15) :
    some ((Spec.times step4 (r + 1) 0xF).getLsbD 0) = noiseBits[r]? := by
  interval_cases r
  all_goals simp [noiseBits, Spec.times, step4_eq]

/-- The bits of scenario D repeat with the register's period. -/
theorem times_step4_noise (k : Nat) : some ((Spec.times step4 (k + 1) 0xF).getLsbD 0) = noiseBits[k % 15]? :=
  calc some ((Spec.times step4 (k + 1) 0xF).getLsbD 0)
    _ = some ((Spec.times step4 (15 * (k / 15) + (k % 15 + 1)) 0xF).getLsbD 0) := by
      rw [← Nat.add_assoc, Nat.div_add_mod]
    _ = some ((Spec.times step4 (k % 15 + 1) 0xF).getLsbD 0) := by rw [times_of_period times_step4_15]
    _ = noiseBits[k % 15]? := step4_noiseBits (Nat.mod_lt k (by decide))

end Sys2Proof.Machine

namespace Sys2Proof.Proofs

open Sys2Proof Sys2Proof.Machine Sys2Proof.Spec

/-- Settles O44: the channels and the prescaler by `prescale`, the window and the buffer by the cycle of the tick. -/
theorem apuTick : Obligations.ApuTick := by
  rintro s u hl rfl
  obtain ⟨hclk, hch0, hch1⟩ := Apu.tick_channels s.tvFormat s.cycles s.apu
  obtain ⟨hacc, hn, hbuf⟩ := Apu.prescale_frame s.apu
  have hdiv := congrArg (s.cycles % ·) (sampleDiv_eq s.tvFormat)
  refine ⟨s.apu.tick s.tvFormat s.cycles, _, whileLive_live hl, fun h37 => ?last, fun h37 => ?between, rfl,
    fun hd => ?window, fun hd => ?sample⟩
  case last =>
    rw [hclk, hch0, hch1, Apu.prescale_of_last h37]
    exact ⟨rfl, rfl, rfl⟩
  case between =>
    rw [hclk, hch0, hch1, Apu.prescale_of_ne h37]
    exact ⟨rfl, rfl, rfl⟩
  all_goals
    rw [hch0, hch1, ← hacc, ← hn, ← hbuf]
  case window =>
    rw [Apu.tick_of_no_sample fun h0 => hd (hdiv.symm.trans h0)]
    exact ⟨Apu.accumulate_acc _, rfl, rfl⟩
  case sample =>
    rw [Apu.tick_of_sample (hdiv.trans hd), Apu.emit_eq]
    refine ⟨rfl, rfl, fun hfull => if_neg (Nat.not_le.2 hfull), fun hroom => ⟨_, rfl, ?_⟩⟩
    rw [← frameBytes_eq]
    exact (if_pos hroom).trans (congrArg (fun acc => _ ++ frameBytes (sample acc _)) (Apu.accumulate_acc _))

/-- Settles O45: the divider, the secondary counter and the generator, each a case of the clock. -/
theorem channelClock : Obligations.ChannelClock := by
  intro c pre hpre
  obtain ⟨haudc, haudf, haudv⟩ := c.clock_frame
  rw [← prescaleOf_eq] at hpre
  subst hpre
  exact ⟨haudc, haudf, haudv, Channel.clock_of_lt, Channel.clock_of_sub_lt,
    fun hd hs => (Channel.clock_of_generate hd hs).trans (Channel.generate_eq _)⟩

/-- Settles O46: the registers' shape, their least periods, and the noise of selector 1 as the bits of the first. -/
theorem noiseSequences : Obligations.NoiseSequences := by
  refine ⟨⟨fun p => cons_extractLsb'_getLsbD _ p, fun p => cons_extractLsb'_getLsbD _ p,
    fun p => cons_extractLsb'_getLsbD _ p,
    fun n => ⟨times_ne step4_ne (by decide) n, times_step4_eq_seed_iff n⟩,
    fun n => ⟨times_ne step5_ne (by decide) n, times_step5_eq_seed_iff n⟩,
    fun n => ⟨times_ne step9_ne (by decide) n, times_step9_eq_seed_iff n⟩⟩, fun c k hc hf hp => ?noise⟩
  rw [Channel.times_clock_of_noise hc hf, hp]
  exact times_step4_noise k

end Sys2Proof.Proofs
end

section
/-! The run's end and the cycle counter (R443, R481): the operations that count or install another state, and every
other operation, which leaves both as they are. -/

namespace Sys2Proof.Machine

/-! ## What leaves both as they are -/

/-- From `s` to `t` the run neither ends nor is taken up again, and no cycle is counted (R443, R481). -/
structure RunKept (s t : State) : Prop where
  fatal : t.fatal = s.fatal
  cycles : t.cycles = s.cycles

theorem ServeFrame.runKept {s t : State} (h : ServeFrame s t) : RunKept s t := ⟨h.fatal, h.cycles⟩

namespace RunKept

theorem trans {s t u : State} (h : RunKept s t) (k : RunKept t u) : RunKept s u :=
  ⟨k.fatal.trans h.fatal, k.cycles.trans h.cycles⟩

theorem opened (addr : Addr) (acc : Access) (s : State) : RunKept s (opened addr acc s) :=
  (ServeFrame.opened addr acc s).runKept

/-- A new record of the variant before the rest of the effect. -/
theorem afterRecord {M : Mapper} {s t : State} (h : RunKept (s.setMapper M) t) : RunKept s t := ⟨h.fatal, h.cycles⟩

/-! ### The frames of the operations -/

section
variable {α : Type} {pick : Mapper → Option α} {addr : Addr} {d : Byte} {acc : Access} {s t : State}

theorem readCycle {f : State → Byte × State} (hf : ∀ o, RunKept o (f o).2) (e : readCycle addr f s = .next t) :
    RunKept s t := by
  obtain ⟨-, rfl⟩ := readCycle_next.1 e
  exact (opened addr .rd s).trans ⟨(hf _).fatal, (hf _).cycles⟩

theorem writeCycle {f : State → State} (hf : ∀ o, RunKept o (f o)) (e : writeCycle addr d f s = .next t) :
    RunKept s t := by
  obtain ⟨-, rfl⟩ := writeCycle_next.1 e
  exact (opened addr (.wr d) s).trans ⟨(hf _).fatal, (hf _).cycles⟩

theorem cartRead {f : α → State → Byte × State} (hf : ∀ m o, RunKept o (f m o).2)
    (e : cartRead pick addr f s = .next t) : RunKept s t := by
  obtain ⟨-, m, -, rfl⟩ := cartRead_next.1 e
  exact (opened addr .rd s).trans ⟨(hf m _).fatal, (hf m _).cycles⟩

theorem cartWrite {f : α → State → State} (hf : ∀ m o, RunKept o (f m o)) (e : cartWrite pick addr d f s = .next t) :
    RunKept s t := by
  obtain ⟨-, m, -, rfl⟩ := cartWrite_next.1 e
  exact (opened addr (.wr d) s).trans ⟨(hf m _).fatal, (hf m _).cycles⟩

theorem cartAccess {f : α → State → Byte × State} {g : α → Byte → State → State} (hf : ∀ m o, RunKept o (f m o).2)
    (hg : ∀ m d o, RunKept o (g m d o)) (e : cartAccess pick addr acc f g s = .next t) : RunKept s t := by
  cases acc with
  | rd => exact cartRead hf e
  | wr d => exact cartWrite (fun m => hg m d) e

theorem whileLive {f : State → State} (hf : RunKept s (f s)) (e : whileLive f s = .next t) : RunKept s t := by
  obtain ⟨-, rfl⟩ := whileLive_next.1 e
  exact hf.trans ⟨rfl, rfl⟩

theorem variantEvent {f : α → State → State} (hf : ∀ m, RunKept s (f m s)) (e : variantEvent pick f s = .next t) :
    RunKept s t := by
  unfold Machine.variantEvent at e
  split at e
  · cases e
  split at e <;> cases e
  exact (hf _).trans ⟨rfl, rfl⟩

end

/-! ### Effects with more than one case -/

theorem romByte (i : Nat) (s : State) : RunKept s (romByte i s).2 := (ServeFrame.romByte i s).runKept

theorem stdScRead (addr : Addr) (m : Std) (s : State) : RunKept s (stdScRead addr m s).2 := by
  unfold Machine.stdScRead
  split
  · exact ⟨rfl, rfl⟩
  · exact romByte _ s

theorem stdRomRead (addr : Addr) (m : Std) (s : State) : RunKept s (stdRomRead addr m s).2 := by
  unfold Machine.stdRomRead
  split
  · exact ⟨rfl, rfl⟩
  · exact romByte _ s

theorem e7LowLoad (addr : Addr) (m : E7) (s : State) : RunKept s (e7LowLoad addr m s).2 := by
  unfold Machine.e7LowLoad
  split
  · exact romByte _ s
  split <;> exact ⟨rfl, rfl⟩

theorem e7LowStore (addr : Addr) (d : Byte) (m : E7) (s : State) : RunKept s (e7LowStore addr d m s) := by
  unfold Machine.e7LowStore
  split <;> exact ⟨rfl, rfl⟩

theorem dpcRomRead (addr : Addr) (m : Dpc) (s : State) : RunKept s (dpcRomRead addr m s).2 := by
  unfold Machine.dpcRomRead
  split
  · exact ⟨rfl, rfl⟩
  · exact romByte _ s

theorem arByte (addr : Addr) (m : Ar) (s : State) : RunKept s (arByte addr m s).2 :=
  (ServeFrame.arByte addr m s).runKept

theorem arInitialize (s : State) : RunKept s (arInitialize s) := by
  obtain ⟨ram, ctrl, entry, n, e, -⟩ := arInitialize_record s
  rw [e]
  exact ⟨rfl, rfl⟩

theorem mapperInit (s : State) : RunKept s (mapperInit s) := by
  unfold Machine.mapperInit
  split
  · exact arInitialize s
  · exact ⟨rfl, rfl⟩

theorem resolve (addr : Addr) (w : Bool) (s : State) : RunKept s (resolve addr w s) :=
  ⟨(resolve_frame addr w s).fatal, (resolve_frame addr w s).cycles⟩

theorem execSetInput {i : Input} {s t : State} (e : execSetInput i s = .next t) : RunKept s t := by
  unfold Machine.execSetInput at e
  split at e
  · exact whileLive ⟨rfl, rfl⟩ e
  · cases e

/-! ### The rows of the bus and the events -/

/-- No operation that leaves the beam where it is ends the run or counts a cycle. -/
theorem exec_of_not_movesBeam {s t : State} : ∀ i : Instr, i.movesBeam = false → exec i s = .next t → RunKept s t
  -- The write registers of the video chip.
  | .vsync _ d => fun _ => writeCycle fun o => (ServeFrame.wrVsync d o).runKept
  | .vblank _ _ | .wsync _ _ | .rsync _ _ | .nusiz0 _ _ | .nusiz1 _ _ | .colup0 _ _ | .colup1 _ _ | .colupf _ _
  | .colubk _ _ | .ctrlpf _ _ | .refp0 _ _ | .refp1 _ _ | .pf0 _ _ | .pf1 _ _ | .pf2 _ _ | .resp0 _ _ | .resp1 _ _
  | .resm0 _ _ | .resm1 _ _ | .resbl _ _ | .audc0 _ _ | .audc1 _ _ | .audf0 _ _ | .audf1 _ _ | .audv0 _ _
  | .audv1 _ _ | .grp0 _ _ | .grp1 _ _ | .enam0 _ _ | .enam1 _ _ | .enabl _ _ | .hmp0 _ _ | .hmp1 _ _ | .hmm0 _ _
  | .hmm1 _ _ | .hmbl _ _ | .vdelp0 _ _ | .vdelp1 _ _ | .vdelbl _ _ | .resmp0 _ _ | .resmp1 _ _ | .hmove _ _
  | .hmclr _ _ | .cxclr _ _ | .tiaw2D _ _ | .tiaw2E _ _ | .tiaw2F _ _ | .tiaw30 _ _ | .tiaw31 _ _ | .tiaw32 _ _
  | .tiaw33 _ _ | .tiaw34 _ _ | .tiaw35 _ _ | .tiaw36 _ _ | .tiaw37 _ _ | .tiaw38 _ _ | .tiaw39 _ _ | .tiaw3A _ _
  | .tiaw3B _ _ | .tiaw3C _ _ | .tiaw3D _ _ | .tiaw3E _ _ | .tiaw3F _ _ => fun _ => writeCycle fun _ => ⟨rfl, rfl⟩
  -- Its read registers.
  | .cxm0p _ | .cxm1p _ | .cxp0fb _ | .cxp1fb _ | .cxm0fb _ | .cxm1fb _ | .cxblpf _ | .cxppmm _ | .inpt4 _ | .inpt5 _
  | .tiarE _ | .tiarF _ => fun _ => readCycle fun _ => ⟨rfl, rfl⟩
  | .inpt0 _ | .inpt1 _ | .inpt2 _ | .inpt3 _ => fun _ => readCycle fun o => (ServeFrame.readPot _ o).runKept
  -- RAM, ports and timer.
  | .ramRd _ | .swchaRd _ | .swacntRd _ | .swchbRd _ | .swbcntRd _ | .intim _ | .timint _ => fun _ =>
    readCycle fun _ => ⟨rfl, rfl⟩
  | .ramWr _ _ | .swchaWr _ _ | .swacntWr _ _ | .swchbWr _ _ | .swbcntWr _ _ | .edgectl _ _ | .tim1t _ _ | .tim8t _ _
  | .tim64t _ _ | .t1024t _ _ => fun _ => writeCycle fun _ => ⟨rfl, rfl⟩
  -- `Unknown` and the standard family.
  | .unkRom _ => fun _ => cartRead fun _ _ => romByte _ _
  | .unkWr _ _ | .f8Wr _ _ | .f6Wr _ _ | .f4Wr _ _ | .f8Scw _ _ | .f6Scw _ _ | .f4Scw _ _ => fun _ =>
    cartWrite fun _ _ => ⟨rfl, rfl⟩
  | .f8Scr a | .f6Scr a | .f4Scr a => fun _ => cartRead (stdScRead a)
  | .f8Rom a | .f6Rom a | .f4Rom a => fun _ => cartRead (stdRomRead a)
  -- The rows that select and read the image, those that read it, and those that read their record or nothing.
  | .f8Bank0 _ _ | .f8Bank1 _ _ | .f6Bank0 _ _ | .f6Bank1 _ _ | .f6Bank2 _ _ | .f6Bank3 _ _ | .f4Bank0 _ _
  | .f4Bank1 _ _ | .f4Bank2 _ _ | .f4Bank3 _ _ | .f4Bank4 _ _ | .f4Bank5 _ _ | .f4Bank6 _ _ | .f4Bank7 _ _
  | .faBank0 _ _ | .faBank1 _ _ | .faBank2 _ _ | .f0Next _ _ | .e0S0 _ _ | .e0S1 _ _ | .e0S2 _ _ | .e7Bank0 _ _
  | .e7Bank1 _ _ | .e7Bank2 _ _ | .e7Bank3 _ _ | .e7Bank4 _ _ | .e7Bank5 _ _ | .e7Bank6 _ _ | .e7Ramon _ _
  | .e7Rbank0 _ _ | .e7Rbank1 _ _ | .e7Rbank2 _ _ | .e7Rbank3 _ _ | .dpcBank0 _ _ | .dpcBank1 _ _ => fun _ =>
    cartAccess (fun _ o => afterRecord (romByte _ (o.setMapper _))) fun _ _ _ => ⟨rfl, rfl⟩
  | .faRom _ _ | .f0Rom _ _ | .e0Rom _ _ | .feRom _ _ | .c0Rom _ _ | .e7Fixed _ _ => fun _ =>
    cartAccess (fun _ _ => romByte _ _) fun _ _ _ => ⟨rfl, rfl⟩
  | .faRamw _ _ | .faRamr _ _ | .c0Ramr _ _ | .c0Ramw _ _ | .e7R256w _ _ | .e7R256r _ _ => fun _ =>
    cartAccess (fun _ _ => ⟨rfl, rfl⟩) fun _ _ _ => ⟨rfl, rfl⟩
  -- The rest of 3F, E7, DPC and "66".
  | .m3fBank a d => fun _ => cartWrite fun _ o => (ServeFrame.tiaWrite a d o).runKept
  | .m3fRom a _ => fun _ => cartAccess (fun m o => (ServeFrame.m3fRead a m o).runKept) fun _ _ _ => ⟨rfl, rfl⟩
  | .e7LowRd a => fun _ => cartRead (e7LowLoad a)
  | .e7LowWr a d => fun _ => cartWrite (e7LowStore a d)
  | .dpcRom a _ => fun _ => cartAccess (dpcRomRead a) fun _ _ _ => ⟨rfl, rfl⟩
  | .dpcRdRng _ | .dpcRdMusic _ | .dpcRdFlag _ => fun _ => cartRead fun _ _ => ⟨rfl, rfl⟩
  | .dpcRdData _ | .dpcRdGated _ | .dpcRdSwap _ | .dpcRdRev _ | .dpcRdRor _ | .dpcRdRol _ => fun _ =>
    cartRead fun _ o => (romByte _ o).trans ⟨rfl, rfl⟩
  | .dpcWrTop _ _ | .dpcWrBottom _ _ | .dpcWrLow _ _ | .dpcWrHigh _ _ | .dpcWrRngReset _ _ | .dpcWrNotImpl _ _
  | .arMemWr _ _ => fun _ => cartWrite fun _ _ => ⟨rfl, rfl⟩
  | .arLatch a _ | .arCtrl a _ => fun _ =>
    cartAccess (fun _ o => afterRecord (arByte a _ (o.setMapper _))) fun _ _ _ => ⟨rfl, rfl⟩
  | .arMemRd a => fun _ => cartRead (arByte a)
  -- The events.
  | .timerTick | .mapperTick | .apuTick | .inputSample => fun _ => whileLive ⟨rfl, rfl⟩
  | .mapperResolve a w => fun _ => whileLive (resolve a w s)
  | .mapperInit => fun _ => whileLive (mapperInit s)
  | .frameReady | .readFb | .readSound _ | .snapshotSave | .formatClassify _ => fun _ e => by
    cases e
    exact ⟨rfl, rfl⟩
  | .setInput _ => fun _ => execSetInput
  | .feTick | .dpcTick | .arTick => fun _ => variantEvent fun _ => ⟨rfl, rfl⟩
  | .ar66Initialize => fun _ => variantEvent fun _ => arInitialize s
  | .tiaTick | .cycle | .run _ | .step _ | .snapshotLoad _ _ | .powerOn _ _ _ _ => nofun

end RunKept

/-! ## What counts cycles or installs another state -/

/-- The events of an instruction, by induction on them: none ends the run. -/
theorem runEvents_fatal (events : List CoreEvent) (seen : List Byte) (s : State) :
    (runEvents events seen s).2.fatal = s.fatal := by
  induction events generalizing seen s with
  | nil => rfl
  | cons e rest ih =>
    cases e with
    | rd addr => exact (ih _ _).trans (busTransaction_fatal addr .rd s)
    | wr addr d => exact (ih _ _).trans (busTransaction_fatal addr (.wr d) s)
    | run n => exact (ih _ _).trans (runCycles_fatal n s)

theorem execStep_fatal {events : List CoreEvent} {s t : State} (e : execStep events s = .next t) :
    t.fatal = s.fatal := by
  unfold execStep at e
  split at e
  · cases e
    rfl
  split at e <;> cases e
  · exact runCycles_fatal 1 s
  · exact runEvents_fatal events [] s

/-- Every operation but the two that install another state; of the others that move the beam a colour clock keeps both,
and what contains a cycle keeps the run's end. -/
theorem exec_keeps_run_or_counts {i : Instr} {s t : State}
    (hp : ∀ image format mode0 mode1, i ≠ .powerOn image format mode0 mode1)
    (hl : ∀ snap image, i ≠ .snapshotLoad snap image) (e : exec i s = .next t) :
    RunKept s t ∨ t.fatal = s.fatal ∧ (i = .cycle ∨ (∃ n, i = .run n) ∨ ∃ events, i = .step events) := by
  cases hm : i.movesBeam with
  | false => exact .inl (RunKept.exec_of_not_movesBeam i hm e)
  | true =>
    unfold Instr.movesBeam at hm
    split at hm
    next => exact .inl (RunKept.whileLive ⟨rfl, rfl⟩ e)
    next =>
      obtain ⟨-, rfl⟩ := whileLive_next.1 e
      exact .inr ⟨cycleOnce_fatal s, .inl rfl⟩
    next n =>
      obtain ⟨-, rfl⟩ := whileLive_next.1 e
      exact .inr ⟨runCycles_fatal n s, .inr (.inl ⟨n, rfl⟩)⟩
    next events => exact .inr ⟨execStep_fatal e, .inr (.inr ⟨events, rfl⟩)⟩
    next snap image => exact absurd rfl (hl snap image)
    next image format mode0 mode1 => exact absurd rfl (hp image format mode0 mode1)
    next => cases hm

end Sys2Proof.Machine

namespace Sys2Proof.Proofs

open Sys2Proof Sys2Proof.Machine

/-- Settles O58: an operation keeps the run's end and the counter, or is one of the three that count. -/
theorem fatalAndCyclesAreKept : Obligations.FatalAndCyclesAreKept := by
  refine ⟨fun i s t hp hl e => ?fatal, fun i s t hc hr hs hp hl e => ?cycles⟩
  case fatal =>
    obtain h | ⟨h, -⟩ := exec_keeps_run_or_counts hp hl e
    · exact h.fatal
    · exact h
  case cycles =>
    obtain h | ⟨-, h | ⟨n, h⟩ | ⟨events, h⟩⟩ := exec_keeps_run_or_counts hp hl e
    · exact h.cycles
    · exact absurd h hc
    · exact absurd h (hr n)
    · exact absurd h (hs events)

end Sys2Proof.Proofs
end

section
/-! Batches of cycles and the stall (R387, R441 to R446): a sample is overtaken by a later one, so that `RUN` adds, and
stalled steps lead the beam to the end of its line. -/

namespace Sys2Proof.Machine

/-! ## A sample overtaken by a later one (R445, R446) -/

/-- `v` is reached from `u` by cycles, as far as sampling sees: what is sampled is the same, and time has passed. -/
structure SampledLater (u v : State) : Prop where
  cycles : u.cycles ≤ v.cycles
  io : v.io = u.io
  input : v.input = u.input
  mode0 : v.mode0 = u.mode0
  mode1 : v.mode1 = u.mode1
  vblankLatch : v.tia.vblankLatch = u.tia.vblankLatch
  vblankDump : v.tia.vblankDump = u.tia.vblankDump

theorem cycleTimes_later (n : Nat) (s : State) : SampledLater s (cycleTimes n s) := by
  constructor <;> simp

namespace SampledLater

variable {u v : State}

theorem mode (h : SampledLater u v) (p : Port) : v.mode p = u.mode p := by
  cases p with
  | port0 => exact h.mode0
  | port1 => exact h.mode1

theorem elapsedLines_le (h : SampledLater u v) : elapsedLines u ≤ elapsedLines v := by
  unfold elapsedLines
  rw [h.io]
  exact Nat.div_le_div_right (Nat.sub_le_sub_right h.cycles _)

/-- A latch that the earlier sample pulls low is pulled low by the later one, for the button is the same (R445). -/
theorem sampledLatch_resample (h : SampledLater u v) (p : Port) :
    sampledLatch (v.setIo (sampleInput u).io) p = sampledLatch v p := by
  have hl : (sampleInput u).io.latch p = sampledLatch u p := by cases p <;> rfl
  simp only [sampledLatch_eq, State.setIo_tia, State.setIo_input, State.setIo_io, hl, h.vblankLatch, h.input, h.io,
    h.mode, show (v.setIo (sampleInput u).io).mode p = u.mode p from h.mode p]
  split <;> rfl

/-- A paddle that is charged at the earlier sample is charged at the later one: no fewer lines have passed (R446). -/
theorem updatedCharge_resample (h : SampledLater u v) (k : Pot) :
    updatedCharge (v.setIo (sampleInput u).io) k = updatedCharge v k := by
  have hc : (sampleInput u).io.charged k = updatedCharge u k := by cases k <;> rfl
  have hm : (v.setIo (sampleInput u).io).mode k.port = u.mode k.port := h.mode _
  have he : elapsedLines (v.setIo (sampleInput u).io) = elapsedLines v := by
    unfold elapsedLines
    rw [h.io]
    rfl
  unfold updatedCharge
  rw [hm, h.mode, he, State.setIo_io, hc, State.setIo_tia, State.setIo_input, h.vblankDump, h.input, h.io]
  split
  next hp =>
    split
    · rfl
    next hd =>
      split
      · rfl
      next ht =>
        have htu : ¬ paddleThreshold (u.input.paddle k).pos ≤ (elapsedLines u : Int) := by
          have := h.elapsedLines_le
          omega
        rw [updatedCharge, if_pos hp, if_neg hd, if_neg htu]
  next hp => exact if_neg hp

/-- The later sample is all that counts (R442). -/
theorem sampleInput_resample (h : SampledLater u v) : sampleInput (v.setIo (sampleInput u).io) = sampleInput v := by
  rw [sampleInput_eq (v.setIo _), sampleInput_eq v]
  simp only [h.sampledLatch_resample, h.updatedCharge_resample, h.io]
  rfl

end SampledLater

/-! ## `RUN` (R442) -/

/-- A batch neither reads nor writes the answer of the last operation. -/
theorem runCycles_answer (n : Nat) (r : Reply) (s : State) : runCycles n (s.answer r) = (runCycles n s).answer r := by
  unfold runCycles
  rw [cycleTimes_answer]
  rfl

theorem runCycles_succ (n : Nat) (s : State) : runCycles (n + 1) s = runCycles n (cycleOnce s) := rfl

/-- Two batches are one: the first one's sample is overtaken by the second one's. -/
theorem runCycles_add (a b : Nat) (s : State) : runCycles (a + b) s = runCycles b (runCycles a s) := by
  have hb := cycleTimes_later b (cycleTimes a s)
  unfold runCycles
  rw [cycleTimes_add]
  refine hb.sampleInput_resample.symm.trans (congrArg sampleInput ?_)
  exact (cycleTimes_setIo b _ _).symm

theorem exec_cycle_live {s : State} (hl : s.fatal = none) : exec .cycle s = .next ((cycleOnce s).answer .none) :=
  whileLive_live hl

/-- `RUN` on the state that an operation without an answer leaves. -/
theorem exec_run_answered (n : Nat) {s : State} (hl : s.fatal = none) :
    exec (.run n) (s.answer .none) = .next ((runCycles n s).answer .none) := by
  rw [execRun_live n (s := s.answer .none) hl, runCycles_answer, State.answer_answer]

/-! ## The stall (R441) -/

/-- A stalled step is one cycle and a sample, and the next step starts from there. -/
theorem stepTimes_succ_stalled (events : List CoreEvent) {s : State} (hl : s.fatal = none)
    (hw : s.tia.waitHBlank = true) : ∃ t, t.fatal = none ∧ t.tia = (cycleOnce s).tia ∧ t.cycles = s.cycles + 1 ∧
      ∀ n, Spec.stepTimes events (n + 1) s = Spec.stepTimes events n t := by
  refine ⟨(runCycles 1 s).answer .none, (runCycles_fatal 1 s).trans hl, runCycles_tia 1 s, runCycles_cycles 1 s,
    fun n => ?_⟩
  simp only [Spec.stepTimes, execStep_stalled events hl hw, execRun_live 1 hl]

/-- With `k + 1` cycles left to the end of the line, by induction on them: the flag stays set within the line, and the
last cycle clears it. -/
theorem stepTimes_stall (events : List CoreEvent) (k : Nat) {s : State} (hl : s.fatal = none)
    (hw : s.tia.waitHBlank = true) (hx : s.tia.x + 3 * (k + 1) = 160) :
    (∃ t, Spec.stepTimes events (k + 1) s = some t ∧ t.tia.waitHBlank = false ∧ t.tia.x = -68 ∧
      t.cycles = s.cycles + (k + 1)) ∧
    ∀ j, j ≤ k → ∃ t, Spec.stepTimes events j s = some t ∧ t.tia.waitHBlank = true := by
  induction k generalizing s with
  | zero =>
    obtain ⟨t, -, htia, hc, hstep⟩ := stepTimes_succ_stalled events hl hw
    obtain ⟨hx', -, hw', -⟩ := cycleOnce_ends_line (s := s) (by omega)
    refine ⟨⟨t, hstep 0, htia ▸ hw', htia ▸ hx', hc⟩, fun j hj => ?_⟩
    obtain rfl : j = 0 := by omega
    exact ⟨s, rfl, hw⟩
  | succ k ih =>
    obtain ⟨t, htl, htia, hc, hstep⟩ := stepTimes_succ_stalled events hl hw
    obtain ⟨hx', -, hw'⟩ := cycleOnce_within_line (s := s) (by omega)
    rw [← htia] at hx' hw'
    obtain ⟨⟨v, hv, hvw, hvx, hvc⟩, hset⟩ := ih htl (hw'.trans hw) (by omega)
    refine ⟨⟨v, (hstep _).trans hv, hvw, hvx, by omega⟩, fun j hj => ?_⟩
    cases j with
    | zero => exact ⟨s, rfl, hw⟩
    | succ j => exact hstep j ▸ hset j (by omega)

end Sys2Proof.Machine

namespace Sys2Proof.Proofs

open Sys2Proof Sys2Proof.Machine

/-- Settles O48: a batch is its first cycle and the rest, and the sample between two batches is overtaken. The premise
on the paddles is not needed: a charge that starts in the future counts as no line elapsed. -/
theorem runAdds : Obligations.RunAdds := by
  intro s hl
  refine ⟨rfl, fun n => ⟨_, exec_cycle_live hl, ?succ⟩, fun a b _ => ⟨_, execRun_live a hl, ?add⟩⟩
  case succ => rw [exec_run_answered n ((cycleOnce_fatal s).trans hl), execRun_live _ hl, runCycles_succ]
  case add => rw [exec_run_answered b ((runCycles_fatal a s).trans hl), execRun_live _ hl, runCycles_add]

/-- Settles O50: `k` cycles are left to the end of the line, and each stalled step is one of them. -/
theorem stallEnds : Obligations.StallEnds := by
  intro events s k hl hw hlo hhi hb hk
  obtain ⟨n, rfl⟩ : ∃ n, k = n + 1 := ⟨k - 1, by omega⟩
  obtain ⟨hend, hset⟩ := stepTimes_stall events n hl hw (by omega)
  exact ⟨by omega, by omega, execStep_stalled events hl hw, hend, fun j hj => hset j (by omega)⟩

end Sys2Proof.Proofs
end

section
/-! Snapshots (R466, R467, R483) and the classification of the TV format (R470). -/

namespace Sys2Proof.Machine

/-! ## `SNAPSHOT.LOAD` -/

theorem execSnapshotLoad_live (snap : Snapshot) (image : Image) {s : State} (hl : s.fatal = none) :
    exec (.snapshotLoad snap image) s = .next (loadSnapshot snap image s) :=
  if_neg (Bool.eq_false_iff.1 ((State.ended_iff s).2 hl))

theorem currentSnapshot_saved (s : State) : currentSnapshot (saved s) = some (saved s) := if_pos rfl

/-- A saved state is of the current version and of a variant, so both checks pass. -/
theorem loadSnapshot_saved (s u : State) (image : Image) :
    loadSnapshot (saved s) image u = (restored (saved s) s.bus.mapper image u).answer .loaded := by
  have hv : ¬ Config.snapVersion < (saved s).version := lt_irrefl _
  rw [loadSnapshot, if_neg hv, currentSnapshot_saved]
  rfl

/-- Loading a saved state in range is a request in range: nothing is to be migrated. -/
theorem request_ok_of_saved {s : State} (h : s.ok = true) :
    Request.ok (encode (.snapshotLoad (saved s) s.image)) = true := by
  have hv : Config.snapVersion ≤ (saved s).version := le_refl _
  show ((saved s).ok s.image && (decide (Config.snapVersion ≤ (saved s).version) || _)) = true
  rw [saved_ok h, decide_eq_true hv]
  rfl

/-! ## `FORMAT.CLASSIFY` (R470) -/

/-- `l` begins with `k` counts above the threshold. -/
def StartsAbove (k : Nat) (l : List Int) : Prop := ∃ r, r <+: l ∧ r.length = k ∧ ∀ n ∈ r, 263 < n

/-- 20 consecutive counts of `l` are above the threshold. -/
def HasLongRun (l : List Int) : Prop := ∃ r, r <:+: l ∧ r.length = 20 ∧ ∀ n ∈ r, 263 < n

theorem startsAbove_zero (l : List Int) : StartsAbove 0 l := ⟨[], List.nil_prefix, rfl, nofun⟩

theorem not_startsAbove_nil (k : Nat) : ¬ StartsAbove (k + 1) [] := by
  rintro ⟨r, hr, hk, -⟩
  rw [List.prefix_nil.1 hr] at hk
  cases hk

theorem startsAbove_succ_cons (k : Nat) (n : Int) (l : List Int) :
    StartsAbove (k + 1) (n :: l) ↔ 263 < n ∧ StartsAbove k l := by
  constructor
  · rintro ⟨r, hr, hk, hall⟩
    cases r with
    | nil => cases hk
    | cons m r =>
      obtain ⟨rfl, hrl⟩ := List.cons_prefix_cons.1 hr
      obtain ⟨hm, hall⟩ := List.forall_mem_cons.1 hall
      exact ⟨hm, r, hrl, Nat.succ.inj hk, hall⟩
  · rintro ⟨hn, r, hr, hk, hall⟩
    exact ⟨n :: r, List.cons_prefix_cons.2 ⟨rfl, hr⟩, congrArg Nat.succ hk, List.forall_mem_cons.2 ⟨hn, hall⟩⟩

theorem StartsAbove.mono {j k : Nat} {l : List Int} (h : StartsAbove k l) (hj : j ≤ k) : StartsAbove j l := by
  obtain ⟨r, hr, hk, hall⟩ := h
  exact ⟨r.take j, (List.take_prefix j r).trans hr, by rw [List.length_take]; omega,
    fun n hn => hall n (List.mem_of_mem_take hn)⟩

theorem StartsAbove.hasLongRun {l : List Int} (h : StartsAbove 20 l) : HasLongRun l := by
  obtain ⟨r, hr, hk, hall⟩ := h
  exact ⟨r, hr.isInfix, hk, hall⟩

theorem not_hasLongRun_nil : ¬ HasLongRun [] := by
  rintro ⟨r, hr, hk, -⟩
  rw [List.infix_nil.1 hr] at hk
  cases hk

theorem hasLongRun_cons (n : Int) (l : List Int) : HasLongRun (n :: l) ↔ StartsAbove 20 (n :: l) ∨ HasLongRun l := by
  simp only [HasLongRun, StartsAbove, List.infix_cons_iff, or_and_right, exists_or]

/-- With `k + 1` more counts needed for a run of 20: the loop answers PAL exactly when the next ones complete the run,
or a whole run follows (R470). -/
theorem classifyFrom_eq_pal_iff {run k : Nat} (hk : run + (k + 1) = 20) (l : List Int) :
    classifyFrom run l = .pal ↔ StartsAbove (k + 1) l ∨ HasLongRun l := by
  induction l generalizing run k with
  | nil =>
    have h : ¬ (StartsAbove (k + 1) [] ∨ HasLongRun []) := not_or.2 ⟨not_startsAbove_nil k, not_hasLongRun_nil⟩
    exact iff_of_false nofun h
  | cons n l ih =>
    rw [classifyFrom, hasLongRun_cons, startsAbove_succ_cons, startsAbove_succ_cons 19]
    split
    next hn =>
      have hn : 263 < n := hn
      split
      next hr =>
        obtain rfl : k = 0 := by rw [Config.formatRun] at hr; omega
        exact iff_of_true rfl (.inl ⟨hn, startsAbove_zero l⟩)
      next hr =>
        rw [Config.formatRun] at hr
        obtain ⟨k, rfl⟩ : ∃ j, k = j + 1 := ⟨k - 1, by omega⟩
        rw [ih (k := k) (by omega)]
        have h19 : StartsAbove 19 l → StartsAbove (k + 1) l := fun h => h.mono (by omega)
        tauto
    next hn =>
      have hn : ¬ 263 < n := hn
      rw [ih (run := 0) (k := 19) rfl]
      have h20 : StartsAbove 20 l → HasLongRun l := StartsAbove.hasLongRun
      tauto

theorem classify_eq_pal_iff (counts : List Int) : classify counts = .pal ↔ HasLongRun counts := by
  rw [classify, classifyFrom_eq_pal_iff (k := 19) rfl]
  exact ⟨fun h => h.elim StartsAbove.hasLongRun id, .inr⟩

end Sys2Proof.Machine

namespace Sys2Proof.Proofs

open Sys2Proof Sys2Proof.Machine

/-- Settles O53: what was saved passes both checks, and every field is restored. -/
theorem snapshotRoundTrip : Obligations.SnapshotRoundTrip := by
  refine fun s => ⟨saved s, rfl, request_ok_of_saved, fun u hu => ?_⟩
  rw [execSnapshotLoad_live _ _ hu, loadSnapshot_saved]
  rfl

/-- Settles O54: the two checks in their order, by what each finds. -/
theorem snapshotLoadChecks : Obligations.SnapshotLoadChecks := by
  intro snap image s hl
  rw [execSnapshotLoad_live _ _ hl, loadSnapshot, currentSnapshot]
  split
  next => rfl
  next =>
    cases (if snap.version = Config.snapVersion then some snap else Config.migrate snap) with
    | none => rfl
    | some r =>
      dsimp only [loadCurrent]
      cases r.mapper with
      | unknownTag t => rfl
      | variant m => rfl

/-- Settles O57: a run of 20 counts is what the loop finds. -/
theorem formatClassify : Obligations.FormatClassify := by
  refine fun counts s => ⟨classify counts, rfl, (classify_eq_pal_iff counts).trans ?_⟩
  constructor
  · rintro ⟨run, ⟨before, after, h⟩, hk, hall⟩
    exact ⟨before, run, after, h.symm, hk, hall⟩
  · rintro ⟨before, run, after, h, hk, hall⟩
    exact ⟨run, ⟨before, after, h.symm⟩, hk, hall⟩

end Sys2Proof.Proofs
end
